-- ==== Sys2Proof/Word.lean ====
section
/-! DEFINITION. The word types of the FQ-432 and the numbers that name its parts.
Bit vectors hold what the manual wraps or lays out in bits; counts are natural numbers; the name of one of a fixed number of like
parts is a `Fin`. -/

namespace Sys2Proof

/-- One byte of a frame (R175). -/
abbrev Byte := BitVec 8

/-- A timestamp: 32 bits of coarse count above 16 bits of fine interpolation, in ticks, wrapping at 2⁴⁸ (R3). -/
abbrev Timestamp := BitVec 48

/-- The fine interpolation of a timestamp: the time from the last coarse clock edge, in ticks (R3). -/
abbrev Fine := BitVec 16

/-- The line time, in units of 1/1024 s, wrapping at 2⁴⁰ (R4). -/
abbrev LineTime := BitVec 40

/-- A port: 0 is P0, the supervisor; 1 to 3 are the stations P1 to P3. -/
abbrev PortNo := Fin 4

/-- A timing channel. -/
abbrev ChannelNo := Fin 4

/-- A DUT lane of the lane map. -/
abbrev LaneNo := Fin 32

/-- A slot of the job table. -/
abbrev SlotNo := Fin 16

/-- A page of Sample Memory. -/
abbrev PageNo := Fin 64

/-- A window of one port's map. -/
abbrev WindowNo := Fin 8

/-- A limit set. -/
abbrev SetNo := Fin 8

/-- A limit field, in the order of the table of R133. -/
abbrev FieldNo := Fin 12

/-- The time from one timestamp to a later one: their difference modulo 2⁴⁸ (R3). -/
def ticksBetween (earlier later : Timestamp) : Nat := (later - earlier).toNat

/-- The upper 32 bits of a timestamp: the coarse count (R3). -/
def coarsePart (t : Timestamp) : BitVec 32 := t.extractLsb' 16 32

/-- The lower 16 bits of a timestamp: the fine interpolation (R3). -/
def finePart (t : Timestamp) : Fine := t.extractLsb' 0 16

end Sys2Proof
end

