-- ==== Sys2Proof/Syntax.lean ====
section
/-! DEFINITION. The commands: one constructor for each row of spec/opcode_table.json, in the table's order.
A request carries the port it is sent on and the bytes that its select period has brought after the code byte: the length byte, then
the payload, as far as they have been clocked in (R172, R173, entry 6). An event carries what the world decides about it: the lane or
channel it reaches, its place within the present coarse period in ticks (R3), or what each channel reads. -/

namespace Sys2Proof

/-- The request codes of section 11.2: 0x01 to 0x0B open to every port, 0x20 to 0x30 supervisor-only. -/
def requestCodes : List Byte :=
  [0x01, 0x02, 0x03, 0x04, 0x05, 0x06, 0x07, 0x08, 0x09, 0x0A, 0x0B,
   0x20, 0x21, 0x22, 0x23, 0x24, 0x25, 0x26, 0x27, 0x28, 0x29, 0x2A, 0x2B, 0x2C, 0x2D, 0x2E, 0x2F, 0x30]

/-- A code byte that is not in the table of section 11.2: an UNKNOWN_REQUEST cannot be built with a known code (entry 7). -/
structure UnknownCode where
  /-- the code byte -/
  code : Byte
  /-- it names no request -/
  unknown : code ∉ requestCodes
deriving DecidableEq, Repr

/-- The commands of the FQ-432. -/
inductive Instr where
  | selectAsserted (p : PortNo)
  | selectReleased (p : PortNo)
  | unknownRequest (p : PortNo) (code : UnknownCode) (bytes : List Byte)
  | submit (p : PortNo) (bytes : List Byte)
  | cancel (p : PortNo) (bytes : List Byte)
  | readJob (p : PortNo) (bytes : List Byte)
  | takeCompletion (p : PortNo) (bytes : List Byte)
  | readStatus (p : PortNo) (bytes : List Byte)
  | readSamples (p : PortNo) (bytes : List Byte)
  | readLane (p : PortNo) (bytes : List Byte)
  | readLimits (p : PortNo) (bytes : List Byte)
  | readChannel (p : PortNo) (bytes : List Byte)
  | readReference (p : PortNo) (bytes : List Byte)
  | resetOwnPort (p : PortNo) (bytes : List Byte)
  | resetPort (p : PortNo) (bytes : List Byte)
  | writeLane (p : PortNo) (bytes : List Byte)
  | fillLanes (p : PortNo) (bytes : List Byte)
  | fillVisit
  | stopFill (p : PortNo) (bytes : List Byte)
  | writeWindow (p : PortNo) (bytes : List Byte)
  | writeProfile (p : PortNo) (bytes : List Byte)
  | writeFloor (p : PortNo) (bytes : List Byte)
  | writeLimit (p : PortNo) (bytes : List Byte)
  | freeze (p : PortNo) (bytes : List Byte)
  | thaw (p : PortNo) (bytes : List Byte)
  | hold (p : PortNo) (bytes : List Byte)
  | release (p : PortNo) (bytes : List Byte)
  | checkChannels (p : PortNo) (bytes : List Byte)
  | stopCheck (p : PortNo) (bytes : List Byte)
  | writeService (p : PortNo) (bytes : List Byte)
  | clearReflost (p : PortNo) (bytes : List Byte)
  | clearRefEvents (p : PortNo) (bytes : List Byte)
  | refinRisingEdge
  | referenceLocked
  | absenceExpiry
  | lineTimeAdvance
  | lineTimeRcAdvance
  | laneInputTransition (k : LaneNo) (fine : Fine)
  | qualifiedEdge (c : ChannelNo) (fine : Fine)
  | starvationExpiry (c : ChannelNo)
  | reductionComplete
  | calEdge (e0 e1 e2 e3 : Int)
  | deviceReset
  | deviceResetRelease
  | powerOnReset
  | powerOnSettleExpiry
  | lastResponseByteClockedOut (p : PortNo)
deriving DecidableEq, Repr

end Sys2Proof
end

