-- ==== Sys2Proof/Decode.lean ====
section
/-! DEFINITION. The commands as words. No row of spec/opcode_table.json gives its command bits: a request is a frame of bytes on a
serial port, an event a change of a pin or of the part's own timers. So no word spells a command. The byte layouts of the requests
are read in Sys2Proof/Machine/Operands.lean. -/

namespace Sys2Proof

/-- The command a word of the table spells: none, the table giving no bits for any row. -/
def decodeTableWord (_nbits _w : Nat) : Option Instr := none

end Sys2Proof
end

