-- ==== Sys2Proof/Config.lean ====
section
/-! DEFINITION. The fixed figures of the part, and the one free value: what the channels' interpolators err by at a calibration edge. -/

namespace Sys2Proof.Config

/-- Ticks in one coarse period (R2). -/
abbrev ticksPerCoarse : Nat := 65536
/-- What the line time accumulator gains on a coarse clock edge (R4). -/
abbrev accumulatorGain : Nat := 1024
/-- The accumulator's value at which line time advances (R4). -/
abbrev accumulatorFull : Nat := 250000000
/-- REFIN edges without an absence expiry that make the reference LOCKED (R8). -/
abbrev qualifyingEdges : Nat := 200000
/-- The earliest absence expiry, 392 ns after the detector's start, in ticks of a coarse period of 4 ns (R6, entry 8). -/
abbrev absenceEarliest : Nat := 6422528
/-- The latest absence expiry, 408 ns after the detector's start, in ticks of a coarse period of 4 ns (R6, entry 8). -/
abbrev absenceLatest : Nat := 6684672
/-- The least time of one line time unit by the RC oscillator, 0.98 / 1024 s, in ticks (R5). -/
abbrev rcUnitEarliest : Nat := 15680000000
/-- The greatest time of one line time unit by the RC oscillator, 1.02 / 1024 s, in ticks (R5). -/
abbrev rcUnitLatest : Nat := 16320000000
/-- The dead time of an interpolator, in ticks (R83). -/
abbrev deadTime : Nat := 262144
/-- One step of FILTER, 250 ps, in ticks (R21). -/
abbrev filterStep : Nat := 4096
/-- Runt, decimation and error counts stop here (R22, R80, R164). -/
abbrev countLimit : Nat := 65535
/-- The least starvation timeout, 1 ms, in ticks (R88). -/
abbrev leastTimeout : Nat := 16384000000
/-- Words in a page and words in all (R95). -/
abbrev pageWords : Nat := 1024
/-- Words of Sample Memory (R95). -/
abbrev memoryWords : Nat := 65536
/-- Pages of Sample Memory (R95). -/
abbrev memoryPages : Nat := 64
/-- Records a completion queue holds (R148). -/
abbrev queueDepth : Nat := 8
/-- Service records that may wait on P0 (R152). -/
abbrev serviceWaiting : Nat := 4
/-- The lead before CAL edge 0, in ticks; also the base interval (R162). -/
abbrev calBase : Nat := 4194304
/-- What a CAL interval is longer or shorter than the base (R162). -/
abbrev calShift : Nat := 1024
/-- Ticks in one second (R129). -/
abbrev ticksPerSecond : Nat := 16384000000000
/-- The bound of FO (R122). -/
abbrev foLimit : Int := 2147483647
/-- The longest payload a frame may have (R173). -/
abbrev longestPayload : Nat := 60

/-- What channel `c` errs by, in ticks, at the `k`-th CAL edge that the part takes by itself: a free value, nothing in the manual giving it
(R163, entry 31). -/
opaque readingError (k : Nat) (c : ChannelNo) : Int

end Sys2Proof.Config
end

