-- ==== Sys2Proof/Machine/State.lean ====
section
/-! DEFINITION. The state of the FQ-432, block by block, and its value after power-on reset. Plain data throughout. -/

namespace Sys2Proof.Machine

open Sys2Proof

/-! ### Reference Monitor and Timebase (chapter 1) -/

/-- The reference state (section 1.2). -/
inductive RefState where
  | absent
  | acquiring
  | locked
deriving DecidableEq, Repr

/-- What line time advances from (R5). -/
inductive TimeSource where
  | coarse
  | rc
deriving DecidableEq, Repr

/-- What the multiplier does with its setting (R1, entry 11). -/
inductive Multiplier where
  /-- at its centre setting: after power-on, before any REFIN edge -/
  | centre
  /-- moving toward 25 times REFIN -/
  | slewing
  /-- following REFIN -/
  | tracking
  /-- keeping the last setting it had when REFIN was lost -/
  | held
deriving DecidableEq, Repr

/-- The kind of a reference event (R13). -/
inductive RefEventKind where
  | loss
  | lock
deriving DecidableEq, Repr

/-- A reference event as an event slot holds it (R13). -/
structure RefEvent where
  kind : RefEventKind
  lineTime : LineTime
  aborted : Nat
  checkEnded : Bool
deriving DecidableEq, Repr

/-- The state of the Reference Monitor and Timebase (R16). -/
structure RefMonitor where
  state : RefState
  /-- the qualification count, 0 to 200,000 (R7) -/
  qualified : Nat
  /-- the absence detector: ticks from the last coarse clock edge to its latest end, 408 ns after it was last started (R6, entry 8) -/
  absenceEnd : Nat
  reflost : Bool
  multiplier : Multiplier
  /-- the timestamp counter: a count of coarse periods (R2) -/
  counter : BitVec 32
  /-- how far the present coarse period has run when the latest event was taken, in ticks (the model's own, entry 2) -/
  fine : Fine
  lineTime : LineTime
  source : TimeSource
  /-- the line time accumulator (R4) -/
  accumulator : Nat
  /-- the RC divider's phase: ticks from the last coarse clock edge to the latest end of the line time unit under way, 1.02 / 1024 s after it
  began (R5, entry 8); it counts while the source is RC -/
  rcEnd : Nat
  first : Option RefEvent
  latest : Option RefEvent
deriving DecidableEq, Repr

/-! ### Lane Block and Crosspoint (chapter 2) -/

inductive LaneState where
  | offline
  | online
deriving DecidableEq, Repr

/-- Which station may submit on a lane (R19). -/
inductive Owner where
  | any
  | p1
  | p2
  | p3
deriving DecidableEq, Repr

inductive Edge where
  | rise
  | fall
deriving DecidableEq, Repr

/-- The four configuration fields of a lane record (R18). -/
structure LaneConfig where
  state : LaneState
  owner : Owner
  edge : Edge
  filter : Fin 16
deriving DecidableEq, Repr

/-- Edge qualification of a connected lane (R20, R21). -/
structure Qualifier where
  /-- the EDGE taken at connection -/
  edge : Edge
  /-- the FILTER taken at connection -/
  filter : Fin 16
  /-- the filter's output level, high or low -/
  output : Bool
  /-- the instant of the input transition that began the phase in progress; none for the phase that was in progress at connection,
  and once the phase has lasted the full width and so is no runt -/
  phaseStart : Option Timestamp
  /-- output edges of the selected polarity emitted and not yet taken by the channel, oldest first (entry 15) -/
  emitted : List Timestamp
deriving DecidableEq, Repr

/-- A lane: its record (R18), its input pin and its edge qualification, none while stopped. -/
structure Lane where
  config : LaneConfig
  connected : Option ChannelNo
  /-- the level of the input pin: true is high -/
  level : Bool
  qualifier : Option Qualifier
deriving DecidableEq, Repr

/-- The fill (section 2.5). -/
structure Fill where
  running : Bool
  template : LaneConfig
  first : Nat
  last : Nat
  /-- the lane the next visit will reach -/
  next : Nat
  written : Nat
  skipped : Nat
deriving DecidableEq, Repr

/-- A connection entry of the Crosspoint (R24). -/
inductive Entry where
  | none
  | lane (k : LaneNo)
  | cal
deriving DecidableEq, Repr

/-! ### Job Controller (chapter 3) and the result of a job (chapters 7 and 8) -/

/-- The name of a job: its slot and the slot's generation at acceptance (R38). -/
structure Handle where
  slot : SlotNo
  gen : BitVec 4
deriving DecidableEq, Repr

inductive JobState where
  | queued
  | acquiring
  | waitReduce
  | reducing
  | complete
deriving DecidableEq, Repr

/-- How a job or a service operation ended. -/
inductive EndOutcome where
  | done
  | cancelled
  | refLost
  | noEdges
  | laneOffline
  | stopped
deriving DecidableEq, Repr

inductive Bin where
  | pass
  | edge
  | freq
  | period
  | c2c
  | tie
  | band
  | incomplete
  | notBinned
  | aborted
deriving DecidableEq, Repr

/-- The test a bin names (R141). -/
inductive FailedTest where
  | slips
  | runtMax
  | foMax
  | pjRms16Max
  | pjPpMax
  | c2cRms16Max
  | c2cMaxMax
  | tieRms16Max
  | tiePpMax
  | bandRms16Max
deriving DecidableEq, Repr

/-- The three fields the Binner writes (R141). -/
structure Verdict where
  bin : Bin
  failed : Option FailedTest
  band : Option (Fin 4)
deriving DecidableEq, Repr

/-- One entry of a result's bands (R130). -/
structure BandResult where
  w : Nat
  loHz : Nat
  rms16 : Option Nat
deriving DecidableEq, Repr

/-- The RESULT of a job (R130). -/
structure Result where
  slips : Nat
  pjPp : Nat
  c2cMax : Nat
  mp16 : Nat
  fo : Int
  foSat : Bool
  pjRms16 : Nat
  c2cRms16 : Nat
  tiePp : Nat
  tieRms16 : Nat
  fnomHz : Nat
  bandHiHz : Nat
  bands : List BandResult
deriving DecidableEq, Repr

/-- A job record (R37), with the Binner's fields (R141) as `verdict`. -/
structure Job where
  port : PortNo
  tag : BitVec 16
  sequence : BitVec 32
  lane : LaneNo
  pnom : Nat
  dRequested : Nat
  dEffective : Nat
  n : Nat
  bands : List Nat
  prioRequested : Nat
  prioEffective : Nat
  window : WindowNo
  /-- the window's BASE copied at SUBMIT (R43) -/
  basePage : Nat
  /-- the window's LENGTH copied at SUBMIT (R43) -/
  windowLength : Nat
  limitSet : Option SetNo
  state : JobState
  channel : Option ChannelNo
  captured : Nat
  runts : Nat
  clamped : Bool
  raised : Bool
  bandShort : Bool
  outcome : Option EndOutcome
  verdict : Option Verdict
  result : Option Result
deriving DecidableEq, Repr

/-- A slot of the job table, with the generation it keeps whether free or not (R36). -/
structure Slot where
  gen : BitVec 4
  job : Option Job
deriving DecidableEq, Repr

/-! ### Channel Arbiter (chapter 4) -/

/-- A port's profile (R70). -/
structure Profile where
  ceiling : Nat
  quota : Nat
deriving DecidableEq, Repr

inductive HoldState where
  | running
  | pending
  | active
deriving DecidableEq, Repr

inductive Service where
  | inService
  | outOfService
  | suspect
deriving DecidableEq, Repr

/-! ### Timing Channels (chapter 5) -/

inductive Activity where
  | idle
  | acquiring
  | checking
deriving DecidableEq, Repr

/-- A timing channel (R80). -/
structure Channel where
  activity : Activity
  job : Option Handle
  baseWord : Nat
  n : Nat
  d : Nat
  timeout : Nat
  captured : Nat
  decimation : Nat
  lastTimestamp : Option Timestamp
  /-- the starvation timer: none while stopped, else the ticks from the last coarse clock edge to its end (entry 20) -/
  timer : Option Nat
deriving DecidableEq, Repr

/-! ### Sample Memory (chapter 6) -/

/-- A cell of Sample Memory: a word number and its word. -/
abbrev SampleCell := Nat × BitVec 48

/-- Sample Memory: its words that are not 0, by rising number (R95, entry 17). -/
abbrev Memory := List SampleCell

inductive Key where
  | absent
  | read
  | readWrite
deriving DecidableEq, Repr

/-- A window descriptor (R101). -/
structure Window where
  key : Key
  base : Nat
  length : Nat
deriving DecidableEq, Repr

/-! ### Limit Store (chapter 8) -/

inductive SetState where
  | empty
  | opened
  | frozen
deriving DecidableEq, Repr

/-- A limit set (R133); field `i` of the table of R133 at index `i`. -/
structure LimitSet where
  state : SetState
  references : Nat
  fields : Vector (Option Nat) 12
deriving DecidableEq, Repr

/-! ### Completion Queues (chapter 9) -/

/-- What a service record says of its operation (R34, R166). -/
inductive ServiceReport where
  | fill (outcome : EndOutcome) (first last written skipped : Nat)
  | check (outcome : EndOutcome) (mask : BitVec 4) (e tolerance threshold scored : Nat) (errors : Vector Nat 4)
      (service : Vector Service 4)
deriving DecidableEq, Repr

/-- A completion record (R148, R149). A JOB record holds the job as it stood on its entry into COMPLETE. -/
inductive Record where
  | job (handle : Handle) (job : Job) (lineTime : LineTime) (degraded : Bool)
  | service (report : ServiceReport) (lineTime : LineTime) (degraded olderDropped : Bool)
deriving DecidableEq, Repr

/-- A completion whose record has not entered its queue (R151, R152). -/
inductive Waiting where
  | job (handle : Handle)
  | service (report : ServiceReport) (olderDropped : Bool)
deriving DecidableEq, Repr

/-- A port's completion queue, waiting completions and attention output (section 9.1). -/
structure PortQueue where
  queue : List Record
  waiting : List Waiting
  attn : Bool
deriving DecidableEq, Repr

/-! ### Verification Generator (chapter 10) -/

/-- The Verification Generator (R159). -/
structure Verifier where
  running : Bool
  mask : BitVec 4
  e : Nat
  tolerance : Nat
  threshold : Nat
  prbs : BitVec 15
  /-- CAL edges emitted: the number of the edge about to be emitted (R162) -/
  emitted : Nat
  scored : Nat
  errors : Vector Nat 4
  /-- the instant of the next CAL edge (R162, entry 14) -/
  nextEdge : Timestamp
  /-- the length R162 gave the interval that the next CAL edge ends -/
  interval : Nat
deriving DecidableEq, Repr

/-! ### Ports (chapter 11) -/

inductive Framing where
  | waiting
  | receiving
  | answering
  | trailing
deriving DecidableEq, Repr

/-- The framing of a port (R172). -/
structure PortFrame where
  framing : Framing
  /-- the request bytes received in the current select period; their number is the byte count -/
  received : List Byte
  /-- the response of the frame being answered, status byte first -/
  response : List Byte
  /-- the select input is asserted -/
  selected : Bool
deriving DecidableEq, Repr

/-- The status codes of section 11.2. -/
inductive Status where
  | success
  | empty
  | unknownRequest
  | malformed
  | notPermitted
  | badValue
  | badLane
  | laneNotOwned
  | badRecipe
  | windowAbsent
  | windowShort
  | pagesBusy
  | limitsOpen
  | quota
  | tableFull
  | unknownJob
  | tooLate
  | laneBusy
  | fillRunning
  | outOfWindow
  | limitsFrozen
  | limitsEmpty
  | limitsInUse
  | nothingHeld
  | checkRunning
  | notHeld
  | refNotLocked
  | badWindow
deriving DecidableEq, Repr

/-! ### The whole part -/

/-- The state of the FQ-432. -/
structure State where
  ref : RefMonitor
  lanes : Vector Lane 32
  fill : Fill
  xpoint : Vector Entry 4
  table : Vector Slot 16
  /-- the submission sequence counter (R39) -/
  seqCounter : BitVec 32
  /-- the held counts (R47) -/
  held : Vector Nat 4
  floor : Nat
  profiles : Vector Profile 4
  hold : HoldState
  service : Vector Service 4
  chans : Vector Channel 4
  mem : Memory
  /-- the page hold map (R97) -/
  pages : Vector (Option Handle) 64
  windows : Vector (Vector Window 8) 4
  /-- the reduction FIFO, head first (R110) -/
  fifo : List Handle
  /-- the Reduction Unit's current job: present exactly while its activity is REDUCING (R110) -/
  current : Option Handle
  limits : Vector LimitSet 8
  queues : Vector PortQueue 4
  verif : Verifier
  ports : Vector PortFrame 4
  /-- the RESET pin is asserted (R183) -/
  resetPin : Bool
  /-- 5 ms have passed since the supply became valid (R184) -/
  settled : Bool
  /-- CAL edges the part has taken by itself: the free value of the next one's readings is its number (the model's own, entry 31) -/
  draws : Nat
  /-- the commands that are waiting, first in first out (the host's form) -/
  pending : List Instr
deriving DecidableEq, Repr

/-- Why the model stops. -/
inductive Fault where
  /-- An access to a sample word above 65,535, which does not exist (R95). Raised by QUALIFIED_EDGE, REDUCTION_COMPLETE and
  READ_SAMPLES, and by a command before whose instant an edge is due, in states whose base word or window reaches past the
  memory; no reset state leads to one (R43, R101). Safe: the model stops where the part has no word. -/
  | noSuchWord (word : Nat)
deriving DecidableEq, Repr

/-- Why the model gives a command no meaning. -/
inductive Refusal where
  /-- A command that has no meaning yet, by its mnemonic; raised by an arm of `exec` alone. Safe: the model stops. -/
  | notModelled (mnemonic : String)
deriving DecidableEq, Repr

/-! ### Values after reset -/

/-- The Reference Monitor after power-on reset (R16). -/
def RefMonitor.powerOn : RefMonitor where
  state := .absent
  qualified := 0
  absenceEnd := Config.absenceLatest
  reflost := true
  multiplier := .centre
  counter := 0
  fine := 0
  lineTime := 0
  source := .rc
  accumulator := 0
  rcEnd := Config.rcUnitLatest
  first := none
  latest := none

/-- A lane's configuration after reset (R35), and the fill template's. -/
def LaneConfig.initial : LaneConfig where
  state := .offline
  owner := .any
  edge := .rise
  filter := 0

/-- A lane after reset, its input pin at `level` (R35). -/
def Lane.initial (level : Bool) : Lane where
  config := .initial
  connected := none
  level := level
  qualifier := none

/-- The fill after reset (R35). -/
def Fill.initial : Fill where
  running := false
  template := .initial
  first := 0
  last := 0
  next := 0
  written := 0
  skipped := 0

/-- The profiles after reset (R62). -/
def Profile.initial (p : PortNo) : Profile where
  ceiling := if p = 0 then 3 else 2
  quota := 4

/-- A timing channel after reset (R80). -/
def Channel.initial : Channel where
  activity := .idle
  job := none
  baseWord := 0
  n := 8
  d := 1
  timeout := Config.leastTimeout
  captured := 0
  decimation := 0
  lastTimestamp := none
  timer := none

/-- A window descriptor after reset (R109). -/
def Window.initial : Window where
  key := .absent
  base := 0
  length := 1

/-- A limit set after reset (R147). -/
def LimitSet.initial : LimitSet where
  state := .empty
  references := 0
  fields := Vector.replicate 12 none

/-- A port's completion queue after reset, its ATTN as given (R158). -/
def PortQueue.initial (attn : Bool) : PortQueue where
  queue := []
  waiting := []
  attn := attn

/-- The Verification Generator after reset (R171). -/
def Verifier.initial : Verifier where
  running := false
  mask := 0
  e := 1024
  tolerance := 16
  threshold := 0
  prbs := BitVec.allOnes 15
  emitted := 0
  scored := 0
  errors := Vector.replicate 4 0
  nextEdge := 0
  interval := 0

/-- A port's framing after reset, its select input as it stands (R172). -/
def PortFrame.initial (selected : Bool) : PortFrame where
  framing := .waiting
  received := []
  response := []
  selected := selected

/-- The part right after power-on reset (R184), with its input pins at rest: lanes low, select inputs and the RESET pin released
(entries 12 and 13; DESIGN CHOICE, unsafe). -/
def State.reset : State where
  ref := .powerOn
  lanes := Vector.replicate 32 (.initial false)
  fill := .initial
  xpoint := Vector.replicate 4 .none
  table := Vector.replicate 16 ⟨0, none⟩
  seqCounter := 0
  held := Vector.replicate 4 0
  floor := 0
  profiles := Vector.ofFn Profile.initial
  hold := .running
  service := Vector.replicate 4 .inService
  chans := Vector.replicate 4 .initial
  mem := []
  pages := Vector.replicate 64 none
  windows := Vector.replicate 4 (Vector.replicate 8 .initial)
  fifo := []
  current := none
  limits := Vector.replicate 8 .initial
  queues := Vector.ofFn fun p : PortNo => .initial (p = 0)
  verif := .initial
  ports := Vector.replicate 4 (.initial false)
  resetPin := false
  settled := false
  draws := 0
  pending := []

end Sys2Proof.Machine
end

