-- ==== Sys2Proof/Machine/Operands.lean ====
section
/-! DEFINITION. The operands of requests and the codes of frames (R175): byte order, handles, enumerations in both directions and
the lane record's four configuration bytes (R177). -/

namespace Sys2Proof.Machine

open Sys2Proof

/-! ### Little-endian fields -/

/-- The value of bytes in little-endian order (R175). -/
def leValue : List Byte → Nat
  | [] => 0
  | b :: r => b.toNat + 256 * leValue r

/-- The low `k` bytes of a value in little-endian order (R175). -/
def leBytes : Nat → Nat → List Byte
  | 0, _ => []
  | k + 1, v => BitVec.ofNat 8 v :: leBytes k (v / 256)

/-- The unsigned field of `k` bytes at `offset` of a payload. -/
def field (payload : List Byte) (offset k : Nat) : Nat := leValue ((payload.drop offset).take k)

/-- The byte at `offset` of a payload, as a number. -/
def byteAt (payload : List Byte) (offset : Nat) : Nat := field payload offset 1

/-- A number that names one of `n` parts, if there is a part of that number. -/
def named (n v : Nat) : Option (Fin n) := if h : v < n then some ⟨v, h⟩ else none

/-! ### Handles and optional one-byte fields -/

/-- A handle as one byte: the slot in bits 0 to 3, the generation in bits 4 to 7 (R175). -/
def Handle.code (h : Handle) : Byte := h.gen ++ BitVec.ofNat 4 h.slot.val

/-- The handle a byte spells (R175). -/
def handleOf (b : Byte) : Handle := ⟨(b.extractLsb' 0 4).toFin, b.extractLsb' 4 4⟩

/-- An optional one-byte field: 0xFF when absent (R175). -/
def optionCode : Option Byte → Byte
  | none => 0xFF
  | some b => b

/-- A flag as a byte: 1 set, 0 clear. -/
def boolCode (b : Bool) : Byte := if b then 1 else 0

/-! ### Codes of enumerations (the table of R175, and R178 and R179 for the kinds) -/

def LaneState.code : LaneState → Byte
  | .offline => 0
  | .online => 1

def laneStateOf (v : Nat) : Option LaneState :=
  if v = 0 then some .offline else if v = 1 then some .online else none

def Owner.code : Owner → Byte
  | .any => 0
  | .p1 => 1
  | .p2 => 2
  | .p3 => 3

def ownerOf (v : Nat) : Option Owner :=
  if v = 0 then some .any else if v = 1 then some .p1 else if v = 2 then some .p2 else if v = 3 then some .p3 else none

def Edge.code : Edge → Byte
  | .rise => 0
  | .fall => 1

def edgeOf (v : Nat) : Option Edge :=
  if v = 0 then some .rise else if v = 1 then some .fall else none

def keyOf (v : Nat) : Option Key :=
  if v = 0 then some .absent else if v = 1 then some .read else if v = 2 then some .readWrite else none

def Service.code : Service → Byte
  | .inService => 0
  | .outOfService => 1
  | .suspect => 2

/-- The service states a WRITE SERVICE may write: SUSPECT is not one (R72). -/
def writableServiceOf (v : Nat) : Option Service :=
  if v = 0 then some .inService else if v = 1 then some .outOfService else none

def Activity.code : Activity → Byte
  | .idle => 0
  | .acquiring => 1
  | .checking => 2

def Entry.code : Entry → Byte
  | .none => 0xFF
  | .lane k => BitVec.ofNat 8 k.val
  | .cal => 0x20

def RefState.code : RefState → Byte
  | .absent => 0
  | .acquiring => 1
  | .locked => 2

def HoldState.code : HoldState → Byte
  | .running => 0
  | .pending => 1
  | .active => 2

def TimeSource.code : TimeSource → Byte
  | .coarse => 0
  | .rc => 1

def RefEventKind.code : RefEventKind → Byte
  | .loss => 0
  | .lock => 1

def JobState.code : JobState → Byte
  | .queued => 0
  | .acquiring => 1
  | .waitReduce => 2
  | .reducing => 3
  | .complete => 4

def EndOutcome.code : EndOutcome → Byte
  | .done => 0
  | .cancelled => 1
  | .refLost => 2
  | .noEdges => 3
  | .laneOffline => 4
  | .stopped => 5

def Bin.code : Bin → Byte
  | .pass => 0
  | .edge => 1
  | .freq => 2
  | .period => 3
  | .c2c => 4
  | .tie => 5
  | .band => 6
  | .incomplete => 7
  | .notBinned => 8
  | .aborted => 9

def FailedTest.code : FailedTest → Byte
  | .slips => 0
  | .runtMax => 1
  | .foMax => 2
  | .pjRms16Max => 3
  | .pjPpMax => 4
  | .c2cRms16Max => 5
  | .c2cMaxMax => 6
  | .tieRms16Max => 7
  | .tiePpMax => 8
  | .bandRms16Max => 9

def SetState.code : SetState → Byte
  | .empty => 0
  | .opened => 1
  | .frozen => 2

/-- The status byte of a response (section 11.2). -/
def Status.code : Status → Byte
  | .success => 0x00
  | .empty => 0x01
  | .unknownRequest => 0x02
  | .malformed => 0x03
  | .notPermitted => 0x04
  | .badValue => 0x05
  | .badLane => 0x06
  | .laneNotOwned => 0x07
  | .badRecipe => 0x08
  | .windowAbsent => 0x0A
  | .windowShort => 0x0B
  | .pagesBusy => 0x0C
  | .limitsOpen => 0x0D
  | .quota => 0x0E
  | .tableFull => 0x0F
  | .unknownJob => 0x10
  | .tooLate => 0x11
  | .laneBusy => 0x12
  | .fillRunning => 0x13
  | .outOfWindow => 0x14
  | .limitsFrozen => 0x15
  | .limitsEmpty => 0x16
  | .limitsInUse => 0x17
  | .nothingHeld => 0x18
  | .checkRunning => 0x19
  | .notHeld => 0x1A
  | .refNotLocked => 0x1B
  | .badWindow => 0x1C

/-! ### Structured operands -/

/-- The configuration in the four bytes STATE, OWNER, EDGE, FILTER at `offset`; none when a field is out of range (R27, R177). -/
def laneConfigOf (payload : List Byte) (offset : Nat) : Option LaneConfig :=
  match laneStateOf (byteAt payload offset), ownerOf (byteAt payload (offset + 1)), edgeOf (byteAt payload (offset + 2)),
    named 16 (byteAt payload (offset + 3)) with
  | some st, some ow, some ed, some fi => some ⟨st, ow, ed, fi⟩
  | _, _, _, _ => none

/-- The bytes of a lane record (R177). -/
def laneBytes (l : Lane) : List Byte :=
  [l.config.state.code, l.config.owner.code, l.config.edge.code, BitVec.ofNat 8 l.config.filter.val,
    optionCode (l.connected.map fun c => BitVec.ofNat 8 c.val)]

/-- The recipe and references a SUBMIT payload carries, as numbers (R41, R176). -/
structure SubmitFields where
  tag : BitVec 16
  lane : Nat
  pnom : Nat
  d : Nat
  n : Nat
  priority : Nat
  window : Nat
  limitSet : Nat
  bands : List Nat
deriving DecidableEq, Repr

/-- The band count byte of a SUBMIT payload (R176). -/
def bandCount (payload : List Byte) : Nat := byteAt payload 14

/-- The SUBMIT payload's layout (R176). -/
def submitFields (payload : List Byte) : SubmitFields where
  tag := BitVec.ofNat 16 (field payload 0 2)
  lane := byteAt payload 2
  pnom := field payload 3 4
  d := field payload 7 2
  n := field payload 9 2
  priority := byteAt payload 11
  window := byteAt payload 12
  limitSet := byteAt payload 13
  bands := (List.range (bandCount payload)).map fun b => field payload (15 + 2 * b) 2

end Sys2Proof.Machine
end

