-- ==== Sys2Proof/Machine/Flags.lean ====
section
/-! DEFINITION. Every flag the part computes: the two corrections of SUBMIT, BAND_SHORT, TIME_DEGRADED, ATTN, and the FLAGS bytes of
records and responses (R178, R179). -/

namespace Sys2Proof.Machine

open Sys2Proof

/-- The effective priority: the lesser of the requested one and the ceiling (R44). -/
def effectivePriority (requested ceiling : Nat) : Nat := min requested ceiling

/-- PRIORITY_CLAMPED: the two priorities differ (R44). -/
def priorityClamped (requested ceiling : Nat) : Bool := decide (effectivePriority requested ceiling ≠ requested)

/-- D × PNOM reaches the dead time (R45). -/
def spansDeadTime (d pnom : Nat) : Bool := decide (Config.deadTime ≤ d * pnom)

/-- D EFFECTIVE: D, or ceil(262,144 / PNOM) when D × PNOM is below the dead time (R45). -/
def effectiveDecimation (d pnom : Nat) : Nat :=
  if spansDeadTime d pnom then d else (Config.deadTime + pnom - 1) / pnom

/-- DECIM_RAISED (R45). -/
def decimRaised (d pnom : Nat) : Bool := !spansDeadTime d pnom

/-- BAND_SHORT: a band of the band list is absent from the result (R115, R127). -/
def bandShort (r : Result) : Bool := r.bands.any fun b => b.rms16.isNone

/-- TIME_DEGRADED of a record entering now: the line time source is RC (R5, R150). -/
def timeDegraded (r : RefMonitor) : Bool := decide (r.source = .rc)

/-- What ATTN of port `p` is asserted for: a record in its queue, or on P0 REFLOST (R155, R156). -/
def attnLevel (p : PortNo) (queue : List Record) (reflost : Bool) : Bool := !queue.isEmpty || (decide (p = 0) && reflost)

/-- A byte from its bits 0 to 5, bits 6 and 7 being 0. -/
def flagByte (b0 b1 b2 b3 b4 b5 : Bool) : Byte :=
  BitVec.ofNat 8 (b0.toNat + 2 * b1.toNat + 4 * b2.toNat + 8 * b3.toNat + 16 * b4.toNat + 32 * b5.toNat)

/-- The FLAGS byte of a READ JOB response (R179). -/
def jobFlags (j : Job) : Byte := flagByte j.clamped j.raised j.bandShort false false false

/-- The FLAGS byte of a completion record (R178). -/
def Record.flags : Record → Byte
  | .job _ j _ degraded =>
    flagByte j.clamped j.raised j.bandShort degraded ((j.result.map fun r => r.foSat).getD false) false
  | .service _ _ degraded olderDropped => flagByte false false false degraded false olderDropped

/-- The flags byte of a SUBMIT response (R176). -/
def submitFlags (j : Job) : Byte := flagByte j.clamped j.raised false false false false

end Sys2Proof.Machine
end

