-- ==== Sys2Proof/Machine/Ops.lean ====
section
/-! DEFINITION. The named operations over the part's state that the commands share: single-entry updates, Sample Memory, the job
table and its order of age, the page hold map, connections, the Channel Arbiter, completion records and their queues, the reduction
take, the discard of a port's jobs, lane rewrites, the end of a check, reference events and the passing of coarse time. -/

namespace Sys2Proof.Machine

open Sys2Proof

/-! ### Single-entry updates -/

def State.setLane (s : State) (k : LaneNo) (l : Lane) : State := { s with lanes := s.lanes.set k l }

def State.setEntry (s : State) (c : ChannelNo) (e : Entry) : State := { s with xpoint := s.xpoint.set c e }

def State.setChan (s : State) (c : ChannelNo) (x : Channel) : State := { s with chans := s.chans.set c x }

def State.setService (s : State) (c : ChannelNo) (x : Service) : State := { s with service := s.service.set c x }

def State.setSlot (s : State) (i : SlotNo) (x : Slot) : State := { s with table := s.table.set i x }

def State.setHeld (s : State) (p : PortNo) (n : Nat) : State := { s with held := s.held.set p n }

def State.setLimit (s : State) (x : SetNo) (l : LimitSet) : State := { s with limits := s.limits.set x l }

def State.setQueue (s : State) (p : PortNo) (q : PortQueue) : State := { s with queues := s.queues.set p q }

def State.setPort (s : State) (p : PortNo) (f : PortFrame) : State := { s with ports := s.ports.set p f }

/-! ### Sample Memory (R95) -/

/-- The word at a word number; an unlisted word is 0, as every word is at power-on (R95). -/
def Memory.read : Memory → Nat → BitVec 48
  | [], _ => 0
  | (b, w) :: r, a => if a = b then w else Memory.read r a

/-- The memory with one word written, in the canonical form. -/
def Memory.write : Memory → Nat → BitVec 48 → Memory
  | [], a, w => if w = 0 then [] else [(a, w)]
  | (b, v) :: r, a, w =>
    if a < b then (if w = 0 then (b, v) :: r else (a, w) :: (b, v) :: r)
    else if a = b then (if w = 0 then r else (a, w) :: r)
    else (b, v) :: Memory.write r a w

/-- The canonical form: word numbers strictly rising, none above 65,535, no 0 listed. -/
abbrev Memory.wf (m : Memory) : Prop :=
  m.Pairwise (fun x y => x.1 < y.1) ∧ ∀ x ∈ m, x.1 < Config.memoryWords ∧ x.2 ≠ 0

/-- `count` words from word number `a` upward. -/
def Memory.readRun (m : Memory) (a count : Nat) : List (BitVec 48) := (List.range count).map fun k => m.read (a + k)

/-! ### The job table (R36 to R40) -/

/-- The job a slot holds, if any. -/
def State.jobAt (s : State) (i : SlotNo) : Option Job := s.table[i].job

/-- The handle a slot's job has: the slot and its generation (R38). -/
def State.handleAt (s : State) (i : SlotNo) : Handle := ⟨i, s.table[i].gen⟩

/-- The job a handle names: its slot holds a job and has the handle's generation (R38). -/
def State.lookup (s : State) (h : Handle) : Option Job := if s.table[h.slot].gen = h.gen then s.jobAt h.slot else none

/-- The slot with its generation kept and its job replaced. -/
def State.setJob (s : State) (i : SlotNo) (j : Job) : State := s.setSlot i ⟨s.table[i].gen, some j⟩

/-- A change of the job in a slot; nothing where the slot is free. -/
def State.modifyJob (s : State) (i : SlotNo) (f : Job → Job) : State :=
  match s.jobAt i with
  | some j => s.setJob i (f j)
  | none => s

/-- The lowest-numbered free slot (R36). -/
def State.freeSlot (s : State) : Option SlotNo := (List.finRange 16).find? fun i => (s.jobAt i).isNone

/-- The age of a job: its SEQUENCE counted back from the sequence counter modulo 2³² (R40). -/
def State.age (s : State) (j : Job) : Nat := (s.seqCounter - j.sequence).toNat

/-- The slots whose job `sel` selects, in ascending order, with their jobs. -/
def State.selectJobs (s : State) (sel : SlotNo → Job → Bool) : List (SlotNo × Job) :=
  (List.finRange 16).filterMap fun i => (s.jobAt i).bind fun j => if sel i j then some (i, j) else none

/-- A job placed among jobs ordered oldest first, behind every job at least as old (R40). -/
def State.placeByAge (s : State) (x : SlotNo × Job) : List (SlotNo × Job) → List (SlotNo × Job)
  | [] => [x]
  | y :: r => if s.age y.2 < s.age x.2 then x :: y :: r else y :: s.placeByAge x r

/-- The slots whose job `sel` selects, oldest first, the lower-numbered slot first among equal ages (R40). -/
def State.oldestFirst (s : State) (sel : SlotNo → Job → Bool) : List SlotNo :=
  ((s.selectJobs sel).foldl (fun l x => s.placeByAge x l) []).map Prod.fst

/-- The nominal interval D EFFECTIVE × PNOM (R45). -/
def Job.inom (j : Job) : Nat := j.dEffective * j.pnom

/-- The starvation timeout: the larger of 1 ms and 4 × Inom (R88). -/
def Job.timeout (j : Job) : Nat := max Config.leastTimeout (4 * j.inom)

/-- The first word of the job's page range (R82). -/
def Job.baseWord (j : Job) : Nat := j.basePage * Config.pageWords

/-- The pages a capture of `n` timestamps takes: ceil(n / 1024) (R43). -/
def pagesFor (n : Nat) : Nat := (n + (Config.pageWords - 1)) / Config.pageWords

/-! ### The page hold map (R97 to R99) -/

/-- Page `q` is one of the `count` pages from `base`. -/
def inPageRange (base count : Nat) (q : PageNo) : Bool := decide (base ≤ q.val) && decide (q.val < base + count)

/-- Some page of a range is held. -/
def State.anyHeld (s : State) (base count : Nat) : Bool :=
  (List.finRange 64).any fun q => inPageRange base count q && s.pages[q].isSome

/-- Every page of a range becomes held by `h` (R98). -/
def State.takePages (s : State) (base count : Nat) (h : Handle) : State :=
  { s with pages := Vector.ofFn fun q : PageNo => if inPageRange base count q then some h else s.pages[q] }

/-- Every page held by `h` becomes free (R99, entry 26). -/
def State.releasePages (s : State) (h : Handle) : State :=
  { s with pages := Vector.ofFn fun q : PageNo => if s.pages[q] = some h then none else s.pages[q] }

/-! ### Connections (R20, R24 to R26) -/

/-- Edge qualification as it starts at a connection (R20). -/
def Lane.startQualifier (l : Lane) : Qualifier where
  edge := l.config.edge
  filter := l.config.filter
  output := l.level
  phaseStart := none
  emitted := []

/-- Channel `c` is connected to lane `k` (R25). -/
def State.connect (s : State) (c : ChannelNo) (k : LaneNo) : State :=
  (s.setLane k { s.lanes[k] with connected := some c, qualifier := some s.lanes[k].startQualifier }).setEntry c (.lane k)

/-- The connection of channel `c` is cleared, with the lane's CONNECTED CHANNEL and its edge qualification (R26). -/
def State.disconnect (s : State) (c : ChannelNo) : State :=
  match s.xpoint[c] with
  | .lane k => (s.setLane k { s.lanes[k] with connected := none, qualifier := none }).setEntry c .none
  | .none | .cal => s.setEntry c .none

/-- A channel that stops: IDLE, without a job, its starvation timer stopped (R87, R89 to R91). -/
def Channel.stopped (x : Channel) : Channel := { x with activity := .idle, job := none, timer := none }

/-- The acquisition of channel `c` ends: the channel disconnects and stops. -/
def State.stopChannel (s : State) (c : ChannelNo) : State := (s.disconnect c).setChan c s.chans[c].stopped

/-- A stop from outside the acquisition also discards the decimation count (R91). -/
def State.cutChannel (s : State) (c : ChannelNo) : State :=
  (s.disconnect c).setChan c { s.chans[c].stopped with decimation := 0 }

/-! ### The Channel Arbiter (R63 to R67) and the line hold (R76) -/

/-- Channel `c` is free: IN_SERVICE and IDLE (R64). -/
def State.channelFree (s : State) (c : ChannelNo) : Bool :=
  decide (s.service[c] = .inService) && decide (s.chans[c].activity = .idle)

/-- The lowest-numbered free channel (R65). -/
def State.freeChannel (s : State) : Option ChannelNo := (List.finRange 4).find? s.channelFree

/-- What makes grants possible at all: LOCKED, REFLOST clear, hold RUNNING (R63 conditions 2 to 4). -/
def State.grantsOpen (s : State) : Bool :=
  decide (s.ref.state = .locked) && !s.ref.reflost && decide (s.hold = .running)

/-- A job is eligible for a grant (R63). -/
def State.eligible (s : State) (j : Job) : Bool :=
  decide (j.state = .queued) && s.grantsOpen && decide (s.floor ≤ j.prioEffective) &&
    decide (s.lanes[j.lane].config.state = .online) && s.lanes[j.lane].connected.isNone

/-- `a` ranks strictly before `b`: by effective priority, then by age (R67). -/
def State.outranks (s : State) (a b : Job) : Bool :=
  decide (b.prioEffective < a.prioEffective) || (decide (a.prioEffective = b.prioEffective) && decide (s.age b < s.age a))

/-- The first-ranked of some jobs listed by ascending slot, the lower slot winning a tie (R67). -/
def State.firstRanked (s : State) : List (SlotNo × Job) → Option (SlotNo × Job)
  | [] => none
  | x :: r =>
    match s.firstRanked r with
    | none => some x
    | some y => if s.outranks y.2 x.2 then some y else some x

/-- The first-ranked eligible job (R65, R67). -/
def State.nextJob (s : State) : Option (SlotNo × Job) := s.firstRanked (s.selectJobs fun _ j => s.eligible j)

/-- A channel as a grant of the job `j` named `h` at `fine` in the present coarse period prepares it (R66, R82). -/
def Channel.granted (x : Channel) (h : Handle) (j : Job) (fine : Fine) : Channel where
  activity := .acquiring
  job := some h
  baseWord := j.baseWord
  n := j.n
  d := j.dEffective
  timeout := j.timeout
  captured := 0
  decimation := 0
  lastTimestamp := x.lastTimestamp
  timer := some (j.timeout + fine.toNat)

/-- The grant of channel `c` to the job in slot `i` (R66). -/
def State.grant (s : State) (c : ChannelNo) (i : SlotNo) (j : Job) : State :=
  ((s.connect c j.lane).setChan c (s.chans[c].granted (s.handleAt i) j s.ref.fine)).setJob i
    { j with state := .acquiring, channel := some c }

/-- At most `n` grants of one decision (R65). -/
def State.arbitrateUpTo : Nat → State → State
  | 0, s => s
  | n + 1, s =>
    match s.freeChannel, s.nextJob with
    | some c, some (i, j) => State.arbitrateUpTo n (s.grant c i j)
    | _, _ => s

/-- A decision of the Channel Arbiter: it grants until no free channel or no eligible job remains. Each grant takes a free channel,
so four are the most there can be (R65). -/
def State.arbitrate (s : State) : State := State.arbitrateUpTo 4 s

/-- Some channel is ACQUIRING. -/
def State.anyAcquiring (s : State) : Bool := (List.finRange 4).any fun c => decide (s.chans[c].activity = .acquiring)

/-- The test of the hold at an event that made a channel leave ACQUIRING (R76). -/
def State.testHold (s : State) : State :=
  if s.hold = .pending ∧ s.anyAcquiring = false then { s with hold := .active } else s

/-- What follows the end of acquisitions: the hold is tested and the arbiter decides once (R65, R76). -/
def State.afterAcquisition (s : State) : State := s.testHold.arbitrate

/-! ### Completion records and queues (R49, R50, R150 to R153) -/

/-- The set's reference count falls by one (R135). -/
def State.dropReference (s : State) : Option SetNo → State
  | none => s
  | some x => s.setLimit x { s.limits[x] with references := s.limits[x].references - 1 }

/-- The set's reference count rises by one (R135). -/
def State.addReference (s : State) : Option SetNo → State
  | none => s
  | some x => s.setLimit x { s.limits[x] with references := s.limits[x].references + 1 }

/-- The job `j` of slot `i` leaves the table: the slot is freed and its generation rises, its reference is dropped, its port's held
count falls (R38, R50). -/
def State.retire (s : State) (i : SlotNo) (j : Job) : State :=
  let t := (s.setSlot i ⟨s.table[i].gen + 1, none⟩).dropReference j.limitSet
  t.setHeld j.port (t.held[j.port] - 1)

/-- A record joins the tail of the queue of `p`, and ATTN is asserted (R150). -/
def State.enterRecord (s : State) (p : PortNo) (r : Record) : State :=
  s.setQueue p { s.queues[p] with queue := s.queues[p].queue ++ [r], attn := true }

/-- The record of the job `j` of slot `i` enters the queue of `p` and the job leaves the table (R50, R150). -/
def State.enterJob (s : State) (p : PortNo) (i : SlotNo) (j : Job) : State :=
  (s.enterRecord p (.job (s.handleAt i) j s.ref.lineTime (timeDegraded s.ref))).retire i j

/-- A service record enters the queue of `p` (R150). -/
def State.enterService (s : State) (p : PortNo) (r : ServiceReport) (olderDropped : Bool) : State :=
  s.enterRecord p (.service r s.ref.lineTime (timeDegraded s.ref) olderDropped)

/-- A completion offered now enters: fewer than 8 records and nothing waits (R150). -/
def PortQueue.admits (q : PortQueue) : Bool := decide (q.queue.length < Config.queueDepth) && q.waiting.isEmpty

/-- The waiting list of `p` replaced. -/
def State.setWaiting (s : State) (p : PortNo) (w : List Waiting) : State :=
  s.setQueue p { s.queues[p] with waiting := w }

/-- The job in slot `i` is offered to its port's queue: it enters, or it waits (R150, R151). -/
def State.offerJob (s : State) (i : SlotNo) (j : Job) : State :=
  if s.queues[j.port].admits then s.enterJob j.port i j
  else s.setWaiting j.port (s.queues[j.port].waiting ++ [.job (s.handleAt i)])

/-- A waiting completion is a service record. -/
def Waiting.isService : Waiting → Bool
  | .job _ => false
  | .service _ _ => true

/-- A list of waiting completions with its oldest service record discarded (R152). -/
def dropOldestService : List Waiting → List Waiting
  | [] => []
  | w :: r => if w.isService then r else w :: dropOldestService r

/-- A service record that must wait joins the list; with four waiting already, the oldest is discarded and the new one carries
OLDER_DROPPED (R152). -/
def joinService (w : List Waiting) (r : ServiceReport) : List Waiting :=
  if Config.serviceWaiting ≤ w.countP Waiting.isService then dropOldestService w ++ [.service r true]
  else w ++ [.service r false]

/-- A service record is offered to P0's queue (R34, R150, R152, R166). -/
def State.offerService (s : State) (r : ServiceReport) : State :=
  if s.queues[(0 : PortNo)].admits then s.enterService 0 r false
  else s.setWaiting 0 (joinService s.queues[(0 : PortNo)].waiting r)

/-- Room has appeared in the queue of `p`: the head of its waiting completions enters (R151, R153). A handle that names no COMPLETE
job makes no record and the next entry is taken (entry 21). -/
def State.admitWaiting (s : State) (p : PortNo) : List Waiting → State
  | [] => s.setWaiting p []
  | .service r d :: w => (s.setWaiting p w).enterService p r d
  | .job h :: w =>
    match s.lookup h with
    | some j => if j.state = .complete then (s.setWaiting p w).enterJob p h.slot j else s.admitWaiting p w
    | none => s.admitWaiting p w

/-- ATTN of `p` takes the level its queue and REFLOST give it (R155, R156). -/
def State.refreshAttn (s : State) (p : PortNo) : State :=
  s.setQueue p { s.queues[p] with attn := attnLevel p s.queues[p].queue s.ref.reflost }

/-- The verdict of a job that ends without a result (R146). -/
def Verdict.aborted : Verdict := ⟨.aborted, none, none⟩

/-- The job in slot `i` enters COMPLETE: its outcome and bin are set, its pages released and its record offered (R49). -/
def State.completeJob (s : State) (i : SlotNo) (o : EndOutcome) (v : Verdict) : State :=
  match s.jobAt i with
  | none => s
  | some j =>
    let done : Job := { j with state := .complete, channel := none, outcome := some o, verdict := some v }
    ((s.setJob i done).releasePages (s.handleAt i)).offerJob i done

/-- Jobs enter COMPLETE one after another, in the order given, without results. -/
def State.completeAll (s : State) (o : EndOutcome) (l : List SlotNo) : State :=
  l.foldl (fun t i => t.completeJob i o .aborted) s

/-! ### The Reduction Unit (R110 to R112) -/

/-- An IDLE Reduction Unit takes the head of the FIFO (R112). -/
def State.takeHead (s : State) : State :=
  match s.current, s.fifo with
  | none, h :: r => { s with fifo := r, current := some h }.modifyJob h.slot fun j => { j with state := .reducing }
  | _, _ => s

/-! ### Port reset (R59, R157, R181) -/

/-- What the discard of a job does before the job leaves the table, by its state (R59). -/
def State.withdraw (s : State) (i : SlotNo) (j : Job) : State :=
  match j.state with
  | .queued | .complete => s
  | .acquiring =>
    match j.channel with
    | some c => if s.chans[c].job = some (s.handleAt i) then s.cutChannel c else s
    | none => s
  | .waitReduce => { s with fifo := s.fifo.filter fun h => decide (h ≠ s.handleAt i) }
  | .reducing => if s.current = some (s.handleAt i) then { s with current := none } else s

/-- The job in slot `i` is discarded with no record (R59). -/
def State.discard (s : State) (i : SlotNo) : State :=
  match s.jobAt i with
  | none => s
  | some j => ((s.withdraw i j).releasePages (s.handleAt i)).retire i j

/-- The queue and the waiting completions of `p` are emptied (R157). -/
def State.emptyQueue (s : State) (p : PortNo) : State :=
  s.setQueue p { queue := [], waiting := [], attn := attnLevel p [] s.ref.reflost }

/-- A port reset of `p` (R59, R116, R157, R181). -/
def State.portReset (s : State) (p : PortNo) : State :=
  let jobs := s.oldestFirst fun _ j => decide (j.port = p)
  let stops := jobs.any fun i => (s.jobAt i).any fun j => decide (j.state = .acquiring)
  let t := ((jobs.foldl State.discard s).emptyQueue p).takeHead
  if stops then t.afterAcquisition else t

/-! ### Lanes and the fill (R27, R28, R31, R34) -/

/-- Every job QUEUED on lane `k` ends LANE_OFFLINE, oldest first (R28). -/
def State.endQueuedOn (s : State) (k : LaneNo) : State :=
  s.completeAll .laneOffline (s.oldestFirst fun _ j => decide (j.state = .queued) && decide (j.lane = k))

/-- The configuration of lane `k` is rewritten, with what follows at the same event (R27, R31). -/
def State.rewriteLane (s : State) (k : LaneNo) (new : LaneConfig) : State :=
  let old := s.lanes[k].config
  let t := s.setLane k { s.lanes[k] with config := new }
  let u := if old.state = .online ∧ new.state = .offline then t.endQueuedOn k else t
  if old.state ≠ new.state ∨ old.owner ≠ new.owner then u.arbitrate else u

/-- The fill ends with an outcome: it becomes IDLE and its record is offered (R34). -/
def State.endFill (s : State) (o : EndOutcome) : State :=
  { s with fill := { s.fill with running := false } }.offerService
    (.fill o s.fill.first s.fill.last s.fill.written s.fill.skipped)

/-! ### The Verification Generator (R162, R165 to R168) -/

/-- Channel `c` is in the mask. -/
def Verifier.selects (v : Verifier) (c : ChannelNo) : Bool := v.mask.getLsbD c.val

/-- The selected channels become IDLE with no connection, and the check IDLE (R165, R167). -/
def State.dropCheck (s : State) : State :=
  { s with
    chans := Vector.ofFn fun c : ChannelNo => if s.verif.selects c then { s.chans[c] with activity := .idle } else s.chans[c]
    xpoint := Vector.ofFn fun c : ChannelNo => if s.verif.selects c then .none else s.xpoint[c]
    verif := { s.verif with running := false } }

/-- The report of the check as it stands (R166). -/
def State.checkReport (s : State) (o : EndOutcome) : ServiceReport :=
  .check o s.verif.mask s.verif.e s.verif.tolerance s.verif.threshold s.verif.scored s.verif.errors s.service

/-- The running check ends with an outcome and its record is offered (R165 to R168). -/
def State.endCheck (s : State) (o : EndOutcome) : State := s.dropCheck.offerService (s.dropCheck.checkReport o)

/-! ### The Reference Monitor (R5, R6, R13) -/

/-- A reference event is written into LATEST, and into FIRST if FIRST is empty (R13). -/
def RefMonitor.writeEvent (r : RefMonitor) (e : RefEvent) : RefMonitor :=
  { r with latest := some e, first := some (r.first.getD e) }

/-- The absence detector starts at `fine` in the present coarse period (R6). -/
def RefMonitor.startDetector (r : RefMonitor) (fine : Fine) : RefMonitor :=
  { r with absenceEnd := Config.absenceLatest + fine.toNat }

/-- How long before its latest end the absence detector can expire, in ticks (R6). -/
def absenceRange : Nat := Config.absenceLatest - Config.absenceEarliest

/-- A timer of the RC oscillator can end in the present coarse period: its earliest end, `range` ticks before its latest end, lies before the
period's end (R5, R6). -/
def rcMayEnd (latest range : Nat) : Bool := decide (latest < range + Config.ticksPerCoarse)

/-- Where in the present coarse period a timer of the RC oscillator ends that ends now: at the present instant, but not before its earliest
end, nor after its latest (R5, R6, entry 8). -/
def rcEndPlace (present : Fine) (latest range : Nat) : Fine :=
  BitVec.ofNat 16 (min (max present.toNat (latest - range)) latest)

/-- An absence expiry can come in the present coarse period: 392 ns after the detector's start lie before the period's end (R6). -/
def RefMonitor.mayExpire (r : RefMonitor) : Bool := rcMayEnd r.absenceEnd absenceRange

/-- Where in the present coarse period an absence expiry comes that is taken now, 392 to 408 ns after the detector's start (R6). -/
def RefMonitor.expiryPlace (r : RefMonitor) : Fine := rcEndPlace r.fine r.absenceEnd absenceRange

/-- The RC divider begins a unit of line time at `fine` in the present coarse period (R5). -/
def RefMonitor.startUnit (r : RefMonitor) (fine : Fine) : RefMonitor := { r with rcEnd := Config.rcUnitLatest + fine.toNat }

/-- How long before its latest end a unit of line time by the RC oscillator can end, in ticks: ±2% (R5). -/
def rcUnitRange : Nat := Config.rcUnitLatest - Config.rcUnitEarliest

/-- Line time advances from the RC oscillator, and the unit under way can end in the present coarse period (R5). -/
def RefMonitor.mayAdvance (r : RefMonitor) : Bool := decide (r.state ≠ .locked) && rcMayEnd r.rcEnd rcUnitRange

/-- Where in the present coarse period the RC divider's unit ends that ends now (R5). -/
def RefMonitor.unitPlace (r : RefMonitor) : Fine := rcEndPlace r.fine r.rcEnd rcUnitRange

/-! ### Edge qualification and the passing of time (R2, R4, R5, R6, R21, R88; entries 1 and 2) -/

/-- The width of a qualifier's filter, in ticks; 0 when the filter is off (R21). -/
def Qualifier.width (q : Qualifier) : Nat := q.filter.val * Config.filterStep

/-- The level whose beginning is an edge of the selected polarity (R20). -/
def Edge.level : Edge → Bool
  | .rise => true
  | .fall => false

/-- The filter at instant `t`, its input at `level`: when the input has held the level for the full width the output takes it, and if
that is a change to the selected level it emits an edge that lags the input transition by the width. The phase is then no runt
(R21). -/
def Qualifier.settle (q : Qualifier) (level : Bool) (t : Timestamp) : Qualifier :=
  match q.phaseStart with
  | none => q
  | some start =>
    if q.width ≤ ticksBetween start t then
      { q with
        output := level
        phaseStart := none
        emitted :=
          if q.output ≠ level ∧ level = q.edge.level then q.emitted ++ [start + BitVec.ofNat 48 q.width] else q.emitted }
    else q

/-- A lane's filter brought to instant `t`. -/
def Lane.settle (l : Lane) (t : Timestamp) : Lane := { l with qualifier := l.qualifier.map fun q => q.settle l.level t }

/-- The present instant: the last coarse clock edge and how far the period has run since (R2, R3, entry 2). -/
def State.now (s : State) : Timestamp := s.ref.counter ++ s.ref.fine

/-- An event at `fine` in the present coarse period is taken: the period has run at least so far. -/
def State.reach (s : State) (fine : Fine) : State :=
  { s with ref := { s.ref with fine := if s.ref.fine ≤ fine then fine else s.ref.fine } }

/-- The Reference Monitor after a coarse clock edge: the counter advances and wraps, in LOCKED the accumulator gains 1024, the absence
detector ends one period sooner, and so does the RC divider's unit outside LOCKED (R2, R4, R5, R6). -/
def RefMonitor.tick (r : RefMonitor) : RefMonitor :=
  { r with
    counter := r.counter + 1
    fine := 0
    accumulator := if r.state = .locked then r.accumulator + Config.accumulatorGain else r.accumulator
    absenceEnd := r.absenceEnd - Config.ticksPerCoarse
    rcEnd := if r.state = .locked then r.rcEnd else r.rcEnd - Config.ticksPerCoarse }

/-- A channel after a coarse clock edge: a running starvation timer ends one period sooner (R88). -/
def Channel.tick (x : Channel) : Channel := { x with timer := x.timer.map fun t => t - Config.ticksPerCoarse }

/-- A coarse clock edge: the counts that it advances, and every connected lane's filter brought to it. -/
def State.tick (s : State) : State :=
  let r := s.ref.tick
  { s with
    ref := r
    chans := Vector.ofFn fun c : ChannelNo => s.chans[c].tick
    lanes := Vector.ofFn fun l : LaneNo => s.lanes[l].settle (r.counter ++ r.fine) }

end Sys2Proof.Machine
end

