-- ==== Sys2Proof/Machine/Frames.lean ====
section
/-! DEFINITION. Request frames: when a request is taken, the tests that come before its own (R173), and its response (R172, R175). -/

namespace Sys2Proof.Machine

open Sys2Proof

/-- What a request taken answers: a status, the response payload and the part after its effect; or a stop. -/
inductive Reply where
  | answer (status : Status) (body : List Byte) (s : State)
  | fault (r : Fault)

/-- A refusal: an empty payload and no change (R173). -/
def refuse (status : Status) (s : State) : Reply := .answer status [] s

/-- A success without a payload. -/
def succeed (s : State) : Reply := .answer .success [] s

/-- A response: the status byte, the length in units of two bytes, the payload, and a pad byte when it is odd (R175). -/
def responseBytes (status : Status) (body : List Byte) : List Byte :=
  status.code :: BitVec.ofNat 8 ((body.length + 1) / 2) :: body ++ if body.length % 2 = 1 then [0] else []

/-- What the bytes after a code byte make of a frame (R172, R173). -/
inductive FrameState where
  /-- the frame's last byte has not completed -/
  | unfinished
  /-- the length byte is above 60 -/
  | overlong
  /-- the frame is complete with this payload; bytes beyond it are not the request's -/
  | whole (payload : List Byte)
deriving DecidableEq, Repr

/-- How far the bytes after a code byte bring a frame: the length byte, then a payload of that many bytes (R173). -/
def frameState : List Byte → FrameState
  | [] => .unfinished
  | n :: r =>
    if Config.longestPayload < n.toNat then .overlong
    else if r.length < n.toNat then .unfinished
    else .whole (r.take n.toNat)

/-- Port `p` has received these bytes of a request in its select period, their number being the byte count (R172). -/
def State.receive (s : State) (p : PortNo) (received : List Byte) : State := s.setPort p { s.ports[p] with received := received }

/-- Port `p` has taken a request of these bytes and is ANSWERING it with a response (R172). -/
def State.answer (s : State) (p : PortNo) (received : List Byte) (status : Status) (body : List Byte) : State :=
  s.setPort p { s.ports[p] with
    framing := .answering
    received := received
    response := responseBytes status body }

/-- Codes 0x20 and above are supervisor-only (section 11.2). -/
def supervisorOnly (code : Byte) : Bool := decide (0x20 ≤ code.toNat)

/-- The payload length a code requires of a payload (section 11.2); none for a code that names no request. A SUBMIT below 15 bytes
never matches (R173). -/
def requiredLength (code : Byte) (payload : List Byte) : Option Nat :=
  match code.toNat with
  | 0x01 => some (15 + 2 * bandCount payload)
  | 0x02 | 0x03 | 0x07 | 0x08 | 0x09 | 0x25 | 0x27 | 0x28 | 0x30 => some 1
  | 0x04 | 0x05 | 0x0A | 0x0B | 0x22 | 0x29 | 0x2A | 0x2C | 0x2E | 0x2F => some 0
  | 0x2D => some 2
  | 0x24 => some 3
  | 0x06 => some 4
  | 0x20 | 0x23 => some 5
  | 0x21 => some 6
  | 0x2B => some 7
  | 0x26 => some 11
  | _ => none

/-- The tests of R173 after that of the length byte, in their order: the status of the first that holds, or none. -/
def frameRefusal (p : PortNo) (code : Byte) (payload : List Byte) : Option Status :=
  match requiredLength code payload with
  | none => some .unknownRequest
  | some k =>
    if supervisorOnly code && decide (p ≠ 0) then some .notPermitted
    else if payload.length ≠ k then some .malformed
    else none

/-- The bytes of a request on port `p`: `code`, then `bytes`, all that the select period has brought so far. A RECEIVING port keeps
them until the frame is complete, and then takes the request at that one event: a length byte above 60 is MALFORMED at byte 1, a frame
that fails another test of R173 is refused, each with no change of any block; otherwise `run` gives the answer and effect of the
payload (R172, R173). Unless the port is RECEIVING its bytes are ignored (R172), and bytes that do not go on from those received
cannot occur (entries 4 and 6). -/
def request (p : PortNo) (code : Byte) (bytes : List Byte) (s : State) (run : List Byte → Reply) :
    Host.Outcome State Fault Refusal :=
  if s.ports[p].framing = .receiving ∧ s.ports[p].received <+: code :: bytes then
    match frameState bytes with
    | .unfinished => .next (s.receive p (code :: bytes))
    | .overlong => .next (s.answer p (code :: bytes.take 1) .malformed [])
    | .whole payload =>
      let received := code :: bytes.take (payload.length + 1)
      match frameRefusal p code payload with
      | some status => .next (s.answer p received status [])
      | none =>
        match run payload with
        | .answer status body t => .next (t.answer p received status body)
        | .fault r => .fault r
  else .next s

end Sys2Proof.Machine
end

