-- ==== Sys2Proof/Machine/Responses.lean ====
section
/-! DEFINITION. The response layouts of chapter 11: the SUBMIT response (R176), completion records (R178), READ JOB, READ REFERENCE,
READ LIMITS and READ CHANNEL (R179) and READ STATUS (R180). -/

namespace Sys2Proof.Machine

open Sys2Proof

/-- An optional number from 0 to 254 as one byte (R175). -/
def optionByte (o : Option Nat) : Byte := optionCode (o.map (BitVec.ofNat 8))

/-- The SUBMIT response: handle, SEQUENCE, D EFFECTIVE, PRIORITY EFFECTIVE, flags (R46, R176). R41 says of TAG that it is returned in
the response, but R46 and R176 list the response without it: DESIGN CHOICE, the nine bytes of R176 (entry 32). -/
def submitResponse (h : Handle) (j : Job) : List Byte :=
  h.code :: leBytes 4 j.sequence.toNat ++ leBytes 2 j.dEffective ++ [BitVec.ofNat 8 j.prioEffective, submitFlags j]

/-- READ JOB, 30 bytes (R179). -/
def jobResponse (j : Job) : List Byte :=
  [BitVec.ofNat 8 j.port.val] ++ leBytes 2 j.tag.toNat ++ leBytes 4 j.sequence.toNat ++ [BitVec.ofNat 8 j.lane.val] ++
    leBytes 4 j.pnom ++ leBytes 2 j.dRequested ++ leBytes 2 j.dEffective ++ leBytes 2 j.n ++
    [BitVec.ofNat 8 j.bands.length, BitVec.ofNat 8 j.prioRequested, BitVec.ofNat 8 j.prioEffective, j.state.code,
      optionByte (j.channel.map Fin.val)] ++
    leBytes 2 j.captured ++ leBytes 2 j.runts ++
    [jobFlags j, optionCode (j.outcome.map EndOutcome.code), optionCode (j.verdict.map fun v => v.bin.code)]

/-- The W code of a band position: log₂ W, 0 for no band (R178). -/
def bandCode (bands : List Nat) (b : Nat) : Byte :=
  match bands[b]? with
  | some w => BitVec.ofNat 8 w.log2
  | none => 0

/-- A band entry of 11 bytes (R178). -/
def bandEntry (bands : List BandResult) (b : Nat) : List Byte :=
  match bands[b]? with
  | some r => leBytes 4 r.loHz ++ leBytes 7 (r.rms16.getD 0)
  | none => leBytes 11 0

/-- The band presence byte (R178). -/
def bandPresence (bands : List BandResult) : Byte :=
  let has b := (bands[b]?.bind BandResult.rms16).isSome
  flagByte (has 0) (has 1) (has 2) (has 3) false false

/-- Bytes 40 and on of a JOB record with a RESULT, without the pad byte (R178). -/
def resultBytes (r : Result) : List Byte :=
  leBytes 2 r.slips ++ leBytes 5 r.pjPp ++ leBytes 5 r.c2cMax ++ leBytes 6 r.mp16 ++ leBytes 4 (BitVec.ofInt 32 r.fo).toNat ++
    leBytes 6 r.pjRms16 ++ leBytes 6 r.c2cRms16 ++ leBytes 7 r.tiePp ++ leBytes 7 r.tieRms16 ++ leBytes 4 r.fnomHz ++
    leBytes 4 r.bandHiHz ++ [bandPresence r.bands] ++ bandEntry r.bands 0 ++ bandEntry r.bands 1 ++ bandEntry r.bands 2 ++
    bandEntry r.bands 3

/-- A JOB record without its pad byte (R178). -/
def jobRecordBytes (h : Handle) (j : Job) (lineTime : LineTime) (degraded : Bool) : List Byte :=
  [1, h.code, optionCode (j.outcome.map EndOutcome.code), optionCode (j.verdict.map fun v => v.bin.code)] ++
    leBytes 2 j.tag.toNat ++ leBytes 4 j.sequence.toNat ++ [BitVec.ofNat 8 j.lane.val, BitVec.ofNat 8 j.window.val] ++
    leBytes 4 j.pnom ++ leBytes 2 j.dEffective ++ leBytes 2 j.n ++ leBytes 2 j.captured ++ leBytes 2 j.runts ++
    [BitVec.ofNat 8 j.prioEffective, optionByte (j.limitSet.map Fin.val),
      optionCode ((j.verdict.bind Verdict.failed).map FailedTest.code), optionByte ((j.verdict.bind Verdict.band).map Fin.val),
      (Record.job h j lineTime degraded).flags, BitVec.ofNat 8 j.bands.length, bandCode j.bands 0, bandCode j.bands 1,
      bandCode j.bands 2, bandCode j.bands 3] ++
    leBytes 5 lineTime.toNat ++
    match j.result with
    | none => [0]
    | some r => 1 :: resultBytes r

/-- A service record without its pad byte (R178). -/
def serviceRecordBytes (r : ServiceReport) (lineTime : LineTime) (flags : Byte) : List Byte :=
  match r with
  | .fill o first last written skipped =>
    [2, o.code, BitVec.ofNat 8 first, BitVec.ofNat 8 last, BitVec.ofNat 8 written, BitVec.ofNat 8 skipped, flags] ++
      leBytes 5 lineTime.toNat
  | .check o mask e tolerance threshold scored errors service =>
    [3, o.code, BitVec.ofNat 8 mask.toNat, flags] ++ leBytes 2 e ++ leBytes 2 tolerance ++ leBytes 2 threshold ++
      leBytes 2 scored ++ leBytes 2 errors[0] ++ leBytes 2 errors[1] ++ leBytes 2 errors[2] ++ leBytes 2 errors[3] ++
      [service[0].code, service[1].code, service[2].code, service[3].code] ++ leBytes 5 lineTime.toNat

/-- The payload of a TAKE COMPLETION that returns a record (R178). -/
def Record.bytes : Record → List Byte
  | .job h j lineTime degraded => jobRecordBytes h j lineTime degraded
  | .service r lineTime degraded olderDropped =>
    serviceRecordBytes r lineTime (Record.service r lineTime degraded olderDropped).flags

/-- An event slot, eight bytes (R179). -/
def eventBytes : Option RefEvent → List Byte
  | none => 0xFF :: leBytes 7 0
  | some e => [e.kind.code] ++ leBytes 5 e.lineTime.toNat ++ [BitVec.ofNat 8 e.aborted, boolCode e.checkEnded]

/-- READ REFERENCE, 27 bytes (R15, R179). -/
def referenceResponse (r : RefMonitor) : List Byte :=
  [r.state.code, boolCode r.reflost] ++ leBytes 5 r.lineTime.toNat ++ [r.source.code] ++ leBytes 3 r.qualified ++
    eventBytes r.first ++ eventBytes r.latest

/-- The presence word of a limit set: bit `i` set when field `i` is present (R179). -/
def presenceWord (l : LimitSet) : Nat :=
  ((List.finRange 12).map fun i => if l.fields[i].isSome then 2 ^ i.val else 0).sum

/-- READ LIMITS, 100 bytes (R140, R179). -/
def limitsResponse (l : LimitSet) : List Byte :=
  [l.state.code, BitVec.ofNat 8 l.references] ++ leBytes 2 (presenceWord l) ++
    (List.finRange 12).flatMap fun i => leBytes 8 (l.fields[i].getD 0)

/-- READ CHANNEL, five bytes (R170, R179). -/
def channelResponse (s : State) (c : ChannelNo) : List Byte :=
  [s.service[c].code, s.chans[c].activity.code, s.xpoint[c].code] ++ leBytes 2 s.verif.errors[c]

/-- READ STATUS of port `p`, 13 bytes (R180). -/
def statusResponse (s : State) (p : PortNo) : List Byte :=
  [BitVec.ofNat 8 s.queues[p].queue.length, BitVec.ofNat 8 s.held[p], BitVec.ofNat 8 s.profiles[p].quota,
    BitVec.ofNat 8 s.profiles[p].ceiling, BitVec.ofNat 8 s.floor, s.hold.code, s.ref.state.code, boolCode s.ref.reflost,
    boolCode s.fill.running, if s.fill.running then BitVec.ofNat 8 s.fill.next else 0xFF, boolCode s.verif.running] ++
    leBytes 2 s.verif.scored

end Sys2Proof.Machine
end

