-- ==== Sys2Proof/Machine/Arbiter.lean ====
section
/-! DEFINITION. Chapter 4: the requests of the Channel Arbiter. -/

namespace Sys2Proof.Machine

open Sys2Proof

/-- What WRITE FLOOR answers: a lowering causes a decision (R69). -/
def writeFloor (s : State) (payload : List Byte) : Reply :=
  let v := byteAt payload 0
  if 4 < v then refuse .badValue s
  else if v < s.floor then succeed { s with floor := v }.arbitrate
  else succeed { s with floor := v }

/-- WRITE_FLOOR (R69). -/
def execWriteFloor (p : PortNo) (bytes : List Byte) (s : State) : Host.Outcome State Fault Refusal :=
  request p 0x25 bytes s (writeFloor s)

/-- What WRITE PROFILE answers (R70). -/
def writeProfile (s : State) (payload : List Byte) : Reply :=
  match named 4 (byteAt payload 0) with
  | none => refuse .badValue s
  | some q =>
    if 3 < byteAt payload 1 ∨ 16 < byteAt payload 2 then refuse .badValue s
    else succeed { s with profiles := s.profiles.set q ⟨byteAt payload 1, byteAt payload 2⟩ }

/-- WRITE_PROFILE (R70). -/
def execWriteProfile (p : PortNo) (bytes : List Byte) (s : State) : Host.Outcome State Fault Refusal :=
  request p 0x24 bytes s (writeProfile s)

/-- What WRITE SERVICE answers: a change to IN_SERVICE causes a decision (R72). -/
def writeService (s : State) (payload : List Byte) : Reply :=
  match named 4 (byteAt payload 0), writableServiceOf (byteAt payload 1) with
  | some c, some x =>
    if s.verif.running ∧ s.verif.selects c then refuse .checkRunning s
    else if x = .inService ∧ s.service[c] ≠ .inService then succeed (s.setService c x).arbitrate
    else succeed (s.setService c x)
  | _, _ => refuse .badValue s

/-- WRITE_SERVICE (R72). -/
def execWriteService (p : PortNo) (bytes : List Byte) (s : State) : Host.Outcome State Fault Refusal :=
  request p 0x2D bytes s (writeService s)

/-- The hold state a HOLD gives (the table of R75). -/
def State.heldBy (s : State) : HoldState :=
  match s.hold with
  | .running => if s.anyAcquiring then .pending else .active
  | .pending => .pending
  | .active => .active

/-- HOLD (R75). -/
def execHold (p : PortNo) (bytes : List Byte) (s : State) : Host.Outcome State Fault Refusal :=
  request p 0x29 bytes s fun _ => succeed { s with hold := s.heldBy }

/-- What RELEASE answers (R77). -/
def release (s : State) : Reply :=
  if s.hold = .running then refuse .nothingHeld s
  else if s.verif.running then refuse .checkRunning s
  else succeed { s with hold := .running }.arbitrate

/-- RELEASE (R77). -/
def execRelease (p : PortNo) (bytes : List Byte) (s : State) : Host.Outcome State Fault Refusal :=
  request p 0x2A bytes s fun _ => release s

end Sys2Proof.Machine
end

