-- ==== Sys2Proof/Machine/Completion.lean ====
section
/-! DEFINITION. Chapter 9: TAKE COMPLETION. -/

namespace Sys2Proof.Machine

open Sys2Proof

/-- The queue of `p` without its head record, and the head of its waiting completions moved in; ATTN takes the level this gives
(R153, R155, R156). -/
def State.dropHead (s : State) (p : PortNo) (rest : List Record) : State :=
  ((s.setQueue p { s.queues[p] with queue := rest }).admitWaiting p s.queues[p].waiting).refreshAttn p

/-- What TAKE COMPLETION answers (R153). -/
def takeCompletion (s : State) (p : PortNo) : Reply :=
  match s.queues[p].queue with
  | [] => .answer .empty [] s
  | r :: rest => .answer .success r.bytes (s.dropHead p rest)

/-- TAKE_COMPLETION (R153). -/
def execTakeCompletion (p : PortNo) (bytes : List Byte) (s : State) : Host.Outcome State Fault Refusal :=
  request p 0x04 bytes s fun _ => takeCompletion s p

end Sys2Proof.Machine
end

