-- ==== Sys2Proof/Machine/Acquisition.lean ====
section
/-! DEFINITION. Chapter 5: qualified edges, timestamps, the end of an acquisition and starvation. -/

namespace Sys2Proof.Machine

open Sys2Proof

/-- A qualified edge at `t` is stampable: no last timestamp, or at least the dead time after it (R83). -/
def Channel.stampable (x : Channel) (t : Timestamp) : Bool :=
  match x.lastTimestamp with
  | none => true
  | some last => decide (Config.deadTime ≤ ticksBetween last t)

/-- The decimation count with one more qualified edge, up to 65,535 (R85). -/
def Channel.countEdge (x : Channel) : Nat := min Config.countLimit (x.decimation + 1)

/-- An edge at `t` is to be stamped: it is stampable, and it is the first of the acquisition or completes the decimation count
(R83 to R85). -/
def Channel.stamps (x : Channel) (t : Timestamp) : Bool :=
  x.stampable t && (decide (x.captured = 0) || decide (x.d ≤ x.countEdge))

/-- The channel after the timestamp `t`: the timer ends one full timeout after it (R84 to R86, R88). -/
def Channel.stamped (x : Channel) (t : Timestamp) : Channel :=
  { x with
    captured := x.captured + 1
    decimation := 0
    lastTimestamp := some t
    timer := some (x.timeout + (finePart t).toNat) }

/-- An edge at `fine` in the present coarse period comes no later than the end of the running starvation timer (R88, R93). -/
def Channel.inTime (x : Channel) (fine : Fine) : Bool := x.timer.all fun r => decide (fine.toNat ≤ r)

/-- The edge at `t` is the oldest that the lane's filter has emitted and its channel has not taken (entry 15). -/
def Lane.offers (l : Lane) (t : Timestamp) : Bool := decide ((l.qualifier.bind fun q => q.emitted.head?) = some t)

/-- The oldest edge emitted has reached the channel. -/
def Lane.deliver (l : Lane) : Lane := { l with qualifier := l.qualifier.map fun q => { q with emitted := q.emitted.tail } }

/-- The timestamp `t` of channel `c` is written for the job `h`, before the test for the N-th (R86). -/
def State.writeTimestamp (s : State) (c : ChannelNo) (h : Handle) (t : Timestamp) : State :=
  ({ s with mem := s.mem.write (s.chans[c].baseWord + s.chans[c].captured) t }.setChan c (s.chans[c].stamped t)).modifyJob h.slot
    fun j => { j with captured := s.chans[c].captured + 1 }

/-- The acquisition of channel `c` for the job `h` ends at its N-th timestamp (R87). -/
def State.finishAcquisition (s : State) (c : ChannelNo) (h : Handle) : State :=
  let t := (s.stopChannel c).modifyJob h.slot fun j => { j with state := .waitReduce, channel := none }
  { t with fifo := t.fifo ++ [h] }.takeHead.afterAcquisition

/-- A timestamp of channel `c`, and the end of the acquisition when it is the N-th (R86, R87). A word past the end of Sample Memory
does not exist. -/
def State.stamp (s : State) (c : ChannelNo) (h : Handle) (t : Timestamp) : Host.Outcome State Fault Refusal :=
  let x := s.chans[c]
  if Config.memoryWords ≤ x.baseWord + x.captured then .fault (.noSuchWord (x.baseWord + x.captured))
  else if x.n ≤ x.captured + 1 then .next ((s.writeTimestamp c h t).finishAcquisition c h)
  else .next (s.writeTimestamp c h t)

/-- The edge at instant `t` that lane `k` offers reaches channel `c`, ACQUIRING for the job `h`: stamped when due and stampable, else
counted (R83 to R87). -/
def State.takeEdge (s : State) (c : ChannelNo) (h : Handle) (k : LaneNo) (t : Timestamp) : Host.Outcome State Fault Refusal :=
  let u := s.setLane k s.lanes[k].deliver
  if s.chans[c].stamps t then u.stamp c h t
  else .next (u.setChan c { s.chans[c] with decimation := s.chans[c].countEdge })

/-- An edge of the instant `fine` of the present coarse period, that instant reached: the connected lane's filter is brought to the present
instant, and the oldest edge it has emitted reaches the ACQUIRING channel (R20, R21, R83 to R87). An edge that the lane does not offer, or
one later than the end of the starvation timer, cannot occur (entries 4 and 15). -/
def State.edgeComes (s : State) (c : ChannelNo) (fine : Fine) : Host.Outcome State Fault Refusal :=
  match s.chans[c].activity, s.chans[c].job, s.xpoint[c] with
  | .acquiring, some h, .lane k =>
    let t := s.ref.counter ++ fine
    let v := s.setLane k (s.lanes[k].settle s.now)
    if v.lanes[k].offers t && s.chans[c].inTime fine then v.takeEdge c h k t else .next s
  | _, _, _ => .next s

/-- The running timer of channel `c` has ended by the present instant: the acquisition ends and its job enters COMPLETE NO_EDGES (R89). -/
def State.timerExpires (s : State) (c : ChannelNo) : State :=
  match s.chans[c].activity, s.chans[c].job, s.chans[c].timer with
  | .acquiring, some h, some r =>
    if r ≤ s.ref.fine.toNat then ((s.stopChannel c).completeJob h.slot .noEdges .aborted).afterAcquisition else s
  | _, _, _ => s

end Sys2Proof.Machine
end

