-- ==== Sys2Proof/Machine/Reference.lean ====
section
/-! DEFINITION. Chapter 1: REFIN edges, lock, absence, loss of reference, line time, and the requests of the Reference Monitor.
REFIN_RISING_EDGE, ABSENCE_EXPIRY and LINE_TIME_RC_ADVANCE stand with the other commands that have an instant, in Machine/Instants.lean. -/

namespace Sys2Proof.Machine

open Sys2Proof

/-- The monitor at the entry to LOCKED, with its LOCK event (R5, R8, R13). The part of a unit under way by the RC oscillator is dropped. -/
def RefMonitor.lock (r : RefMonitor) : RefMonitor :=
  { r with state := .locked, multiplier := .tracking, source := .coarse, accumulator := 0, rcEnd := Config.rcUnitLatest }.writeEvent
    ⟨.lock, r.lineTime, 0, false⟩

/-- The lock: with the count at 200,000 in ACQUIRING the reference becomes LOCKED and the arbiter decides (R8). -/
def State.referenceLocks (s : State) : State :=
  if s.ref.state = .acquiring ∧ Config.qualifyingEdges ≤ s.ref.qualified then { s with ref := s.ref.lock }.arbitrate else s

/-- REFERENCE_LOCKED (R8). -/
def execReferenceLocked (s : State) : Host.Outcome State Fault Refusal := .next s.referenceLocks

/-- The monitor at the exit from LOCKED, before the LOSS event (R1, R5, R9): the part of a unit accumulated is dropped, and the RC divider's phase
restarts at the present instant. -/
def RefMonitor.lose (r : RefMonitor) : RefMonitor :=
  { r with
    state := .absent
    reflost := true
    multiplier := .held
    source := .rc
    accumulator := 0 }.startUnit r.fine

/-- The channels that are ACQUIRING. -/
def State.acquiringChannels (s : State) : List ChannelNo :=
  (List.finRange 4).filter fun c => decide (s.chans[c].activity = .acquiring)

/-- The jobs the ACQUIRING channels serve, oldest first (R90). -/
def State.acquiringJobs (s : State) : List SlotNo :=
  s.oldestFirst fun i _ => s.acquiringChannels.any fun c => decide (s.chans[c].job = some (s.handleAt i))

/-- The acquisitions the loss ends: every ACQUIRING channel stops and its job enters COMPLETE REF_LOST, oldest first (R90). -/
def State.endAcquisitions (s : State) : State :=
  (s.acquiringChannels.foldl State.stopChannel s).completeAll .refLost s.acquiringJobs

/-- The check the loss ends, if one runs (R168). -/
def State.endCheckIfRunning (s : State) : State := if s.verif.running then s.endCheck .refLost else s

/-- A loss of reference: the exit from LOCKED (R9, R90, R168). -/
def State.loseReference (s : State) : State :=
  let t := (({ s with ref := s.ref.lose }.refreshAttn 0).endAcquisitions).endCheckIfRunning
  { t with ref := t.ref.writeEvent ⟨.loss, s.ref.lineTime, s.acquiringChannels.length, s.verif.running⟩ }.afterAcquisition

/-- An absence expiry, at the place in the present coarse period that R6 leaves it: nothing in ABSENT, a return to ABSENT from ACQUIRING, a
loss of reference in LOCKED (R6, R9, R10). The detector starts again there (entry 10). -/
def State.absenceExpires (s : State) : State :=
  let u := s.reach s.ref.expiryPlace
  let r := u.ref.startDetector s.ref.expiryPlace
  match s.ref.state with
  | .absent => { u with ref := r }
  | .acquiring => { u with ref := { r with state := .absent, multiplier := .held } }
  | .locked => { u with ref := r }.loseReference

/-- An absence expiry, where one can come in the present coarse period. In one that ends before 392 ns have passed since the detector's start
none can: a REFIN edge taken first has restarted it (R6, entries 4 and 8). -/
def State.absenceComes (s : State) : State := if s.ref.mayExpire then s.absenceExpires else s

/-- A REFIN rising edge at the present instant: the detector restarts; ABSENT goes to ACQUIRING with count 1, and in ACQUIRING the count
rises, up to 200,000, where REFERENCE_LOCKED follows (R1, R6, R7, entry 5). -/
def State.refinRises (s : State) : State :=
  let r := s.ref.startDetector s.ref.fine
  match s.ref.state with
  | .absent => { s with ref := { r with state := .acquiring, qualified := 1, multiplier := .slewing } }
  | .acquiring => { s with ref := { r with qualified := min Config.qualifyingEdges (r.qualified + 1) } }
  | .locked => { s with ref := r }

/-- The advance of line time: in LOCKED, with the accumulator at 250,000,000 or more, that is subtracted and line time advances by one (R4).
Below it no advance is due (entry 4). -/
def State.lineTimeAdvances (s : State) : State :=
  if s.ref.state = .locked ∧ Config.accumulatorFull ≤ s.ref.accumulator then
    { s with
      ref := { s.ref with
        accumulator := s.ref.accumulator - Config.accumulatorFull
        lineTime := s.ref.lineTime + 1 } }
  else s

/-- LINE_TIME_ADVANCE (R4); the clock takes the advance at the very coarse edge that brings the accumulator there. -/
def execLineTimeAdvance (s : State) : Host.Outcome State Fault Refusal := .next s.lineTimeAdvances

/-- The advance of line time by the RC oscillator: outside LOCKED, where the divider's unit can end in the present coarse period, line time
advances by one and the next unit begins (R5). -/
def State.lineTimeRcAdvances (s : State) : State :=
  if s.ref.mayAdvance then
    let u := s.reach s.ref.unitPlace
    { u with ref := { u.ref.startUnit s.ref.unitPlace with lineTime := u.ref.lineTime + 1 } }
  else s

/-- What CLEAR REFLOST answers (the table of R12). -/
def clearReflost (s : State) : Reply :=
  if s.ref.state ≠ .locked then refuse .refNotLocked s
  else if s.ref.reflost then
    succeed ({ s with ref := { s.ref with reflost := false } }.refreshAttn 0).arbitrate
  else succeed s

/-- CLEAR_REFLOST (R12). -/
def execClearReflost (p : PortNo) (bytes : List Byte) (s : State) : Host.Outcome State Fault Refusal :=
  request p 0x2E bytes s fun _ => clearReflost s

/-- CLEAR_REF_EVENTS empties both event slots (R14). -/
def execClearRefEvents (p : PortNo) (bytes : List Byte) (s : State) : Host.Outcome State Fault Refusal :=
  request p 0x2F bytes s fun _ => succeed { s with ref := { s.ref with first := none, latest := none } }

/-- READ_REFERENCE (R15). -/
def execReadReference (p : PortNo) (bytes : List Byte) (s : State) : Host.Outcome State Fault Refusal :=
  request p 0x0A bytes s fun _ => .answer .success (referenceResponse s.ref) s

end Sys2Proof.Machine
end

