-- ==== Sys2Proof/Machine/Verification.lean ====
section
/-! DEFINITION. Chapter 10: the start of a channel check, its calibration edges and scoring, its end, and READ CHANNEL. -/

namespace Sys2Proof.Machine

open Sys2Proof

/-- What READ CHANNEL answers (R170). -/
def readChannel (s : State) (payload : List Byte) : Reply :=
  match named 4 (byteAt payload 0) with
  | none => refuse .badValue s
  | some c => .answer .success (channelResponse s c) s

/-- READ_CHANNEL (R170). -/
def execReadChannel (p : PortNo) (bytes : List Byte) (s : State) : Host.Outcome State Fault Refusal :=
  request p 0x09 bytes s (readChannel s)

/-- The parameters of a check are within their ranges: the mask names channels 0 to 3 and not none of them (R160). -/
def checkParametersOk (mask e tolerance : Nat) : Bool :=
  decide (1 ≤ mask) && decide (mask ≤ 15) && decide (1024 ≤ e) && decide (16 ≤ tolerance) && decide (tolerance ≤ 4096)

/-- The generator at the start of a check: the register at all ones, the counts and the selected channels' counters at 0, and edge 0
due 4,194,304 ticks later (R161, R162, entry 14). -/
def Verifier.started (v : Verifier) (now : Timestamp) (mask : BitVec 4) (e tolerance threshold : Nat) : Verifier where
  running := true
  mask := mask
  e := e
  tolerance := tolerance
  threshold := threshold
  prbs := BitVec.allOnes 15
  emitted := 0
  scored := 0
  errors := Vector.ofFn fun c : ChannelNo => if mask.getLsbD c.val then 0 else v.errors[c]
  nextEdge := now + BitVec.ofNat 48 Config.calBase
  interval := Config.calBase

/-- The start of a check (R161). -/
def State.startCheck (s : State) (mask : BitVec 4) (e tolerance threshold : Nat) : State :=
  { s with
    verif := s.verif.started s.now mask e tolerance threshold
    chans := Vector.ofFn fun c : ChannelNo =>
      if mask.getLsbD c.val then { s.chans[c] with activity := .checking } else s.chans[c]
    xpoint := Vector.ofFn fun c : ChannelNo => if mask.getLsbD c.val then .cal else s.xpoint[c] }

/-- What CHECK CHANNELS answers (R160, R161). -/
def checkChannels (s : State) (payload : List Byte) : Reply :=
  let mask := byteAt payload 0
  let e := field payload 1 2
  let tolerance := field payload 3 2
  if !checkParametersOk mask e tolerance then refuse .badValue s
  else if s.hold ≠ .active then refuse .notHeld s
  else if s.verif.running then refuse .checkRunning s
  else if s.ref.state ≠ .locked then refuse .refNotLocked s
  else succeed (s.startCheck (BitVec.ofNat 4 mask) e tolerance (field payload 5 2))

/-- CHECK_CHANNELS (R160, R161). -/
def execCheckChannels (p : PortNo) (bytes : List Byte) (s : State) : Host.Outcome State Fault Refusal :=
  request p 0x2B bytes s (checkChannels s)

/-- What STOP CHECK answers: a running check ends STOPPED (R167). -/
def stopCheck (s : State) : Reply := if s.verif.running then succeed (s.endCheck .stopped).arbitrate else succeed s

/-- STOP_CHECK (R167). -/
def execStopCheck (p : PortNo) (bytes : List Byte) (s : State) : Host.Outcome State Fault Refusal :=
  request p 0x2C bytes s fun _ => stopCheck s

/-- The new bit of a PRBS step: bit 14 XOR bit 13 (R162). -/
def prbsBit (r : BitVec 15) : Bool := r.getLsbD 14 ^^ r.getLsbD 13

/-- A PRBS step: one place toward bit 14, the new bit in bit 0 (R162). -/
def prbsStep (r : BitVec 15) : BitVec 15 := (r <<< 1) ||| BitVec.ofNat 15 (prbsBit r).toNat

/-- The length of an interval whose step gave `bit` (R162). -/
def calInterval (bit : Bool) : Nat := if bit then Config.calBase + Config.calShift else Config.calBase - Config.calShift

/-- A measured interval is an error: it differs from the expected one by more than the tolerance (R164). -/
def isError (tolerance expected measured : Nat) : Bool :=
  decide (expected + tolerance < measured) || decide (measured + tolerance < expected)

/-- The timestamp a channel takes of an edge at instant `t` when it errs by `e` ticks (R163, entry 14). -/
def erringStamp (t : Timestamp) (e : Int) : Timestamp := t + BitVec.ofInt 48 e

/-- The error counter of channel `c` after a scored interval that ends with the timestamp `t`, up to 65,535 (R164). -/
def State.scoredErrors (s : State) (c : ChannelNo) (t : Timestamp) : Nat :=
  match s.chans[c].lastTimestamp with
  | some last =>
    if isError s.verif.tolerance s.verif.interval (ticksBetween last t) then min Config.countLimit (s.verif.errors[c] + 1)
    else s.verif.errors[c]
  | none => s.verif.errors[c]

/-- The generator after the edge about to be emitted: the interval the edge ends is scored unless it is a training interval, and the
next step gives the interval that the edge begins (R162, R164). -/
def State.afterCalEdge (s : State) (stamps : Vector Timestamp 4) : Verifier :=
  let v := s.verif
  let scoring := decide (3 ≤ v.emitted)
  let more := decide (v.emitted < v.e + 2)
  let length := calInterval (prbsBit v.prbs)
  { v with
    emitted := v.emitted + 1
    scored := if scoring then v.scored + 1 else v.scored
    errors := Vector.ofFn fun c : ChannelNo =>
      if scoring && v.selects c then s.scoredErrors c stamps[c] else v.errors[c]
    prbs := if more then prbsStep v.prbs else v.prbs
    interval := if more then length else v.interval
    nextEdge := if more then v.nextEdge + BitVec.ofNat 48 length else v.nextEdge }

/-- The edge is emitted: every channel whose entry holds CAL stamps it, and the generator scores and steps (R163, R164). No dead time
is tested: R163 has every such channel stamp every edge, and gives edge 0 as later than the dead time after any timestamp before the
start. Where the last timestamp lies a whole wrap of 2⁴⁸ back, R161 and R83 taken modulo 2⁴⁸ could find edge 0 inside the dead time:
DESIGN CHOICE, it is stamped (entry 29). -/
def State.emitCalEdge (s : State) (stamps : Vector Timestamp 4) : State :=
  { s with
    verif := s.afterCalEdge stamps
    chans := Vector.ofFn fun c : ChannelNo =>
      if s.xpoint[c] = .cal then { s.chans[c] with lastTimestamp := some stamps[c] } else s.chans[c] }

/-- The service state of channel `c` at the normal end of a check (R165). -/
def State.checkedService (s : State) (c : ChannelNo) : Service :=
  if s.verif.selects c then if s.verif.errors[c] ≤ s.verif.threshold then .inService else .suspect else s.service[c]

/-- The check ends DONE (R165). -/
def State.passCheck (s : State) : State :=
  ({ s with service := Vector.ofFn fun c : ChannelNo => s.checkedService c }.endCheck .done).arbitrate

/-- A CAL edge falls in the present coarse period: a check runs, the generator has an edge left, and its instant is in the period
(R162). -/
def State.calEdgeDue (s : State) : Bool :=
  s.verif.running && decide (s.verif.emitted < s.verif.e + 3) && decide (coarsePart s.verif.nextEdge = s.ref.counter)

/-- The CAL edge of the present coarse period, its instant reached: channel `c` stamps it with the error `e_c`, and edge E + 2 ends the check
DONE (R162 to R165). In a coarse period without its instant no edge comes (entry 4). -/
def State.calEdgeComes (s : State) (e0 e1 e2 e3 : Int) : State :=
  if s.calEdgeDue then
    let stamps : Vector Timestamp 4 :=
      Vector.ofFn fun c : ChannelNo => erringStamp s.verif.nextEdge ([e0, e1, e2, e3].getD c.val 0)
    let t := s.emitCalEdge stamps
    if t.verif.emitted = t.verif.e + 3 then t.passCheck else t
  else s

end Sys2Proof.Machine
end

