-- ==== Sys2Proof/Machine/Clock.lean ====
section
/-! DEFINITION. The events of the part's own timers, and the passing of time within a coarse period and to its end (entries 1, 2 and 30). -/

namespace Sys2Proof.Machine

open Sys2Proof

/-- An event of the part's own timers: the lock, an edge that a lane's filter has emitted reaching channel `c`, the end of a starvation
timer, a CAL edge, the latest end of the RC divider's unit, the latest end of the absence detector, and an advance of line time. -/
inductive TimedEvent where
  | lock
  | edge (c : ChannelNo) (fine : Fine)
  | starvation (c : ChannelNo)
  | calEdge
  | rcLineTime
  | absence
  | lineTime
deriving DecidableEq, Repr

/-- What an event does at the present instant. A CAL edge's readings are free values, used once (R162, entry 31). -/
def TimedEvent.take (e : TimedEvent) (s : State) : Host.Outcome State Fault Refusal :=
  match e with
  | .lock => .next s.referenceLocks
  | .edge c fine => s.edgeComes c fine
  | .starvation c => .next (s.timerExpires c)
  | .calEdge =>
    .next { s.calEdgeComes (Config.readingError s.draws 0) (Config.readingError s.draws 1) (Config.readingError s.draws 2)
      (Config.readingError s.draws 3) with draws := s.draws + 1 }
  | .rcLineTime => .next s.lineTimeRcAdvances
  | .absence => .next s.absenceComes
  | .lineTime => .next s.lineTimeAdvances

/-- An event of the present coarse period and its place in it, in ticks. -/
abbrev DueEvent := Nat × TimedEvent

/-- The edges that channel `c`'s lane has emitted and those that its filter will emit before the period ends, its input staying as it is
(R20, R21). -/
def State.dueEdges (s : State) (c : ChannelNo) : List DueEvent :=
  match s.xpoint[c] with
  | .lane k =>
    let emitted := (((s.lanes[k].settle (s.ref.counter ++ (0xFFFF : Fine))).qualifier.map Qualifier.emitted).getD [])
    (emitted.filter fun t => decide (coarsePart t = s.ref.counter)).map fun t =>
      ((finePart t).toNat, .edge c (finePart t))
  | .none | .cal => []

/-- The end of channel `c`'s starvation timer, if it falls in the period (R88). -/
def State.dueStarvation (s : State) (c : ChannelNo) : List DueEvent :=
  match s.chans[c].timer with
  | some r => if r < Config.ticksPerCoarse then [(r, .starvation c)] else []
  | none => []

/-- The CAL edge that falls in the period (R162). -/
def State.dueCalEdge (s : State) : List DueEvent :=
  if s.calEdgeDue then [((finePart s.verif.nextEdge).toNat, .calEdge)] else []

/-- The lock that the 200,000th REFIN edge has made due (R8, entry 5). -/
def RefMonitor.dueLock (r : RefMonitor) : List DueEvent :=
  if r.state = .acquiring ∧ Config.qualifyingEdges ≤ r.qualified then [(0, .lock)] else []

/-- The latest end of the absence detector, 408 ns after its start, if it falls in the period (R6, entry 8). -/
def RefMonitor.dueAbsence (r : RefMonitor) : List DueEvent :=
  if r.absenceEnd < Config.ticksPerCoarse then [(r.absenceEnd, .absence)] else []

/-- The latest end of the RC divider's unit, 1.02 / 1024 s after it began, if it falls in the period outside LOCKED (R5, entry 8). -/
def RefMonitor.dueUnit (r : RefMonitor) : List DueEvent :=
  if r.state ≠ .locked ∧ r.rcEnd < Config.ticksPerCoarse then [(r.rcEnd, .rcLineTime)] else []

/-- The events due in the rest of the present coarse period, in the order of their instants. DESIGN CHOICE (entry 30): at one instant
qualified edges come first, by ascending channel, then starvation expiries, then the CAL edge, then the advance of line time by the RC
oscillator, then the absence expiry. For an edge and an
expiry, and for either of them or a CAL edge and a loss of reference, R93 and R168 give both orders, and a sender can give the other. -/
def State.due (s : State) : List DueEvent :=
  s.ref.dueLock ++
    (((List.finRange 4).flatMap s.dueEdges ++ (List.finRange 4).flatMap s.dueStarvation ++ s.dueCalEdge ++
      s.ref.dueUnit ++ s.ref.dueAbsence).insertionSort fun x y => x.1 ≤ y.1)

/-- The event that a coarse clock edge makes due, right after it: the advance of line time (R4). DESIGN CHOICE (entry 30): it comes
before every event of the period that the edge begins, an absence expiry at the instant of the edge itself (R9) among them; the spec gives
no order for the two. -/
def RefMonitor.dueAtEdge (r : RefMonitor) : List DueEvent :=
  if r.state = .locked ∧ Config.accumulatorFull ≤ r.accumulator then [(0, .lineTime)] else []

/-- A meaning that goes on from another one's next state; a stop ends it. -/
def andThen (o : Host.Outcome State Fault Refusal) (f : State → Host.Outcome State Fault Refusal) : Host.Outcome State Fault Refusal :=
  match o with
  | .next s => f s
  | .fault e => .fault e
  | .refused e => .refused e

/-- Events taken one after another, each at its place. -/
def runAll : List DueEvent → State → Host.Outcome State Fault Refusal
  | [], s => .next s
  | e :: r, s => andThen (e.2.take (s.reach (BitVec.ofNat 16 e.1))) (runAll r)

/-- The present coarse period runs on to `place`: every event due at an earlier place is taken, in the order of their instants, and none
that is due at that place itself (entries 2 and 30). -/
def State.passTo (s : State) (place : Fine) : Host.Outcome State Fault Refusal :=
  andThen (runAll (s.due.filter fun e => e.1 < place.toNat) s) fun u => .next (u.reach place)

/-- The step of an empty queue: what is due in the present coarse period, the coarse clock edge that ends it, and what that edge makes
due (entry 1). -/
def State.idle (s : State) : Host.Outcome State Fault Refusal :=
  andThen (runAll s.due s) fun t => runAll t.tick.ref.dueAtEdge t.tick

end Sys2Proof.Machine
end

