-- ==== Sys2Proof/Machine/Lanes.lean ====
section
/-! DEFINITION. Chapter 2: lane records, the fill, and transitions of the lane inputs with their glitch filter and runts. -/

namespace Sys2Proof.Machine

open Sys2Proof

/-- What READ LANE answers (R29). -/
def readLane (s : State) (payload : List Byte) : Reply :=
  match named 32 (byteAt payload 0) with
  | none => refuse .badLane s
  | some k => .answer .success (laneBytes s.lanes[k]) s

/-- READ_LANE (R29). -/
def execReadLane (p : PortNo) (bytes : List Byte) (s : State) : Host.Outcome State Fault Refusal :=
  request p 0x07 bytes s (readLane s)

/-- What WRITE LANE answers (R27). -/
def writeLane (s : State) (payload : List Byte) : Reply :=
  match named 32 (byteAt payload 0), laneConfigOf payload 1 with
  | some k, some cfg =>
    if s.fill.running then refuse .fillRunning s
    else if s.lanes[k].connected.isSome then refuse .laneBusy s
    else succeed (s.rewriteLane k cfg)
  | _, _ => refuse .badLane s

/-- WRITE_LANE (R27). -/
def execWriteLane (p : PortNo) (bytes : List Byte) (s : State) : Host.Outcome State Fault Refusal :=
  request p 0x20 bytes s (writeLane s)

/-- The fill as a FILL LANES of a range with a template starts it (R30). -/
def Fill.started (template : LaneConfig) (first last : Nat) : Fill where
  running := true
  template := template
  first := first
  last := last
  next := first
  written := 0
  skipped := 0

/-- What FILL LANES answers (R30). -/
def fillLanes (s : State) (payload : List Byte) : Reply :=
  let first := byteAt payload 0
  let last := byteAt payload 1
  match laneConfigOf payload 2 with
  | some cfg =>
    if 31 < last ∨ last < first then refuse .badLane s
    else if s.fill.running then refuse .fillRunning s
    else succeed { s with fill := .started cfg first last }
  | none => refuse .badLane s

/-- FILL_LANES (R30). -/
def execFillLanes (p : PortNo) (bytes : List Byte) (s : State) : Host.Outcome State Fault Refusal :=
  request p 0x21 bytes s (fillLanes s)

/-- The visit of lane `k`: rewritten when unconnected, skipped when connected (R31). -/
def State.visitLane (s : State) (k : LaneNo) : State :=
  if s.lanes[k].connected.isNone then
    { s with fill := { s.fill with next := s.fill.next + 1, written := s.fill.written + 1 } }.rewriteLane k s.fill.template
  else { s with fill := { s.fill with next := s.fill.next + 1, skipped := s.fill.skipped + 1 } }

/-- FILL_VISIT: the running fill visits its next lane; the visit of the last lane ends it DONE (R31, R34). Where that last visit takes
its lane OFFLINE, the spec gives no order in P0's queue for the LANE_OFFLINE records of P0's own jobs and the FILL record, all offered
at this one event: DESIGN CHOICE, the jobs are offered first and the FILL record last (entry 28). -/
def execFillVisit (s : State) : Host.Outcome State Fault Refusal :=
  match named 32 s.fill.next with
  | some k =>
    if s.fill.running then
      if s.fill.last ≤ s.fill.next then .next ((s.visitLane k).endFill .done) else .next (s.visitLane k)
    else .next s
  | none => .next s

/-- What STOP FILL answers: a running fill ends STOPPED (R33). -/
def stopFill (s : State) : Reply := if s.fill.running then succeed (s.endFill .stopped) else succeed s

/-- STOP_FILL (R33). -/
def execStopFill (p : PortNo) (bytes : List Byte) (s : State) : Host.Outcome State Fault Refusal :=
  request p 0x22 bytes s fun _ => stopFill s

/-- A runt on lane `k` is counted for the job whose channel the lane is connected to, up to 65,535 (R22). -/
def State.countRunt (s : State) (k : LaneNo) : State :=
  match s.lanes[k].connected.bind fun c => s.chans[c].job with
  | some h => s.modifyJob h.slot fun j => { j with runts := min Config.countLimit (j.runts + 1) }
  | none => s

/-- The phase a transition at `t` ends is a runt: measured, and shorter than the width (R21). -/
def Qualifier.endsRunt (q : Qualifier) (t : Timestamp) : Bool :=
  match q.phaseStart with
  | some start => decide (ticksBetween start t < q.width)
  | none => false

/-- The filter at a transition at `t` from `level` to the other level (R21). -/
def Qualifier.transition (q : Qualifier) (level : Bool) (t : Timestamp) : Qualifier :=
  { q.settle level t with phaseStart := some t }.settle (!level) t

/-- The input of lane `k` changes level at the present instant. On a connected lane the phase it ends is measured, a runt is counted, and
the filter acts; with FILTER 0 an output edge is emitted at once (R20 to R22). -/
def State.inputChanges (s : State) (k : LaneNo) : State :=
  let l := s.lanes[k]
  match l.qualifier with
  | none => s.setLane k { l with level := !l.level }
  | some q =>
    let v := s.setLane k { l with level := !l.level, qualifier := some (q.transition l.level s.now) }
    if q.endsRunt s.now then v.countRunt k else v

end Sys2Proof.Machine
end

