-- ==== Sys2Proof/Machine/Instants.lean ====
section
/-! DEFINITION. The commands that have an instant in the present coarse period. Each first lets the period run to that instant, so that
whatever the part's own timers make due earlier in it comes before the command's own event (entry 2). -/

namespace Sys2Proof.Machine

open Sys2Proof

/-- REFIN_RISING_EDGE at the present instant (R1, R6, R7). -/
def execRefinRisingEdge (s : State) : Host.Outcome State Fault Refusal :=
  andThen (s.passTo s.ref.fine) fun u => .next u.refinRises

/-- ABSENCE_EXPIRY (R6, R9, R10), in a coarse period in which 392 ns lie before its end (entries 4 and 8). -/
def execAbsenceExpiry (s : State) : Host.Outcome State Fault Refusal :=
  if s.ref.mayExpire then andThen (s.passTo s.ref.expiryPlace) fun u => .next u.absenceComes else .next s

/-- LINE_TIME_RC_ADVANCE outside LOCKED, in a coarse period in which 0.98 / 1024 s since the RC divider's last unit lie before its end
(R5, entries 4 and 8). -/
def execLineTimeRcAdvance (s : State) : Host.Outcome State Fault Refusal :=
  if s.ref.mayAdvance then andThen (s.passTo s.ref.unitPlace) fun u => .next u.lineTimeRcAdvances else .next s

/-- LANE_INPUT_TRANSITION at `fine` in the present coarse period (R20 to R22). A place before one already reached cannot occur (entries 2
and 4). An acquisition that ends at an earlier place has ended first: a runt that the transition ends is then counted nowhere (R22, R87, R89,
R90). DESIGN CHOICE (entry 2): at the very instant of an emitted edge or of a timer's end the transition comes first, and its runt is
counted; the spec gives no order there, and a sender gives the other by sending the other event first. -/
def execLaneInputTransition (k : LaneNo) (fine : Fine) (s : State) : Host.Outcome State Fault Refusal :=
  if fine < s.ref.fine then .next s else andThen (s.passTo fine) fun u => .next (u.inputChanges k)

/-- QUALIFIED_EDGE at `fine` in the present coarse period (R20, R21, R83 to R87). -/
def execQualifiedEdge (c : ChannelNo) (fine : Fine) (s : State) : Host.Outcome State Fault Refusal :=
  andThen (s.passTo fine) fun u => u.edgeComes c fine

/-- STARVATION_EXPIRY: the running timer of channel `c` ends within the present coarse period (R88, R89). A timer that ends later has no
expiry to give (entry 4); one that an earlier edge of the period restarts has none either. -/
def execStarvationExpiry (c : ChannelNo) (s : State) : Host.Outcome State Fault Refusal :=
  match s.chans[c].timer with
  | some r =>
    if r < Config.ticksPerCoarse then andThen (s.passTo (BitVec.ofNat 16 r)) fun u => .next (u.timerExpires c) else .next s
  | none => .next s

/-- CAL_EDGE: the generator emits its next edge at the instant R162 gives it, channel `c` stamping it with the error `e_c`; edge E + 2
ends the check DONE (R162 to R165). In a coarse period without that instant no edge comes (entry 4). -/
def execCalEdge (e0 e1 e2 e3 : Int) (s : State) : Host.Outcome State Fault Refusal :=
  if s.calEdgeDue then andThen (s.passTo (finePart s.verif.nextEdge)) fun u => .next (u.calEdgeComes e0 e1 e2 e3) else .next s

end Sys2Proof.Machine
end

