-- ==== Sys2Proof/Machine/Jobs.lean ====
section
/-! DEFINITION. Chapter 3: SUBMIT, CANCEL and READ JOB. -/

namespace Sys2Proof.Machine

open Sys2Proof

/-- A port may submit on a lane of this owner (R19). -/
def Owner.admits (o : Owner) (p : PortNo) : Bool :=
  decide (p = 0) ||
    match o with
    | .any => true
    | .p1 => decide (p = 1)
    | .p2 => decide (p = 2)
    | .p3 => decide (p = 3)

/-- The block lengths a band may have (R37). -/
def blockLengths : List Nat := [4, 8, 16, 32, 64, 128, 256, 512, 1024]

/-- No condition of BAD_RECIPE holds (R42, step 3). -/
def SubmitFields.recipeOk (f : SubmitFields) : Bool :=
  decide (40960 ≤ f.pnom) && decide (f.pnom ≤ 16384000) && decide (1 ≤ f.d) && decide (f.d ≤ 4096) && decide (8 ≤ f.n) &&
    decide (f.n ≤ 16384) && decide (f.bands.length ≤ 4) && (f.bands.all fun w => decide (w ∈ blockLengths)) &&
    decide (f.priority ≤ 3)

/-- The limit set a SUBMIT names: absent for 0xFF, else a FROZEN set; none where LIMITS_OPEN holds (R42, R176). -/
def State.namedSet (s : State) (v : Nat) : Option (Option SetNo) :=
  if v = 255 then some none
  else
    match named 8 v with
    | some x => if s.limits[x].state = .frozen then some (some x) else none
    | none => none

/-- What an accepted SUBMIT resolves its payload to. -/
structure Admission where
  lane : LaneNo
  window : WindowNo
  limitSet : Option SetNo
  slot : SlotNo
deriving DecidableEq, Repr

/-- The validation of a SUBMIT, in the order of R42. -/
def State.validate (s : State) (p : PortNo) (f : SubmitFields) : Except Status Admission :=
  match named 32 f.lane with
  | none => .error .badLane
  | some k =>
    if s.lanes[k].config.state = .offline then .error .badLane
    else if !(s.lanes[k].config.owner.admits p) then .error .laneNotOwned
    else if !f.recipeOk then .error .badRecipe
    else
      match named 8 f.window with
      | none => .error .windowAbsent
      | some w =>
        if s.windows[p][w].key ≠ .readWrite then .error .windowAbsent
        else if s.windows[p][w].length * Config.pageWords < f.n then .error .windowShort
        else if s.anyHeld s.windows[p][w].base (pagesFor f.n) then .error .pagesBusy
        else
          match s.namedSet f.limitSet with
          | none => .error .limitsOpen
          | some x =>
            if s.profiles[p].quota ≤ s.held[p] then .error .quota
            else
              match s.freeSlot with
              | none => .error .tableFull
              | some i => .ok ⟨k, w, x, i⟩

/-- The job record of an accepted SUBMIT (R43 to R46). -/
def State.newJob (s : State) (p : PortNo) (f : SubmitFields) (a : Admission) : Job where
  port := p
  tag := f.tag
  sequence := s.seqCounter
  lane := a.lane
  pnom := f.pnom
  dRequested := f.d
  dEffective := effectiveDecimation f.d f.pnom
  n := f.n
  bands := f.bands
  prioRequested := f.priority
  prioEffective := effectivePriority f.priority s.profiles[p].ceiling
  window := a.window
  basePage := s.windows[p][a.window].base
  windowLength := s.windows[p][a.window].length
  limitSet := a.limitSet
  state := .queued
  channel := none
  captured := 0
  runts := 0
  clamped := priorityClamped f.priority s.profiles[p].ceiling
  raised := decimRaised f.d f.pnom
  bandShort := false
  outcome := none
  verdict := none
  result := none

/-- The effects of an acceptance before the arbiter decides (R46). -/
def State.accept (s : State) (p : PortNo) (i : SlotNo) (j : Job) : State :=
  let t := (({ s with seqCounter := s.seqCounter + 1 }.setJob i j).takePages j.basePage (pagesFor j.n) (s.handleAt i)).addReference
    j.limitSet
  t.setHeld p (t.held[p] + 1)

/-- What SUBMIT answers (R42, R46). -/
def submit (s : State) (p : PortNo) (payload : List Byte) : Reply :=
  match s.validate p (submitFields payload) with
  | .error status => refuse status s
  | .ok a =>
    let j := s.newJob p (submitFields payload) a
    .answer .success (submitResponse (s.handleAt a.slot) j) (s.accept p a.slot j).arbitrate

/-- SUBMIT (R41 to R46). -/
def execSubmit (p : PortNo) (bytes : List Byte) (s : State) : Host.Outcome State Fault Refusal :=
  request p 0x01 bytes s (submit s p)

/-- The handle a one-byte payload names. -/
def payloadHandle (payload : List Byte) : Handle := handleOf (BitVec.ofNat 8 (byteAt payload 0))

/-- A port may act on a job: its own, or any for P0 (R51, R58). -/
def Job.opensTo (j : Job) (p : PortNo) : Bool := decide (p = 0) || decide (j.port = p)

/-- The job `j` of slot `i` ends CANCELLED, with what its state adds (R52 to R54). -/
def State.cancelJob (s : State) (i : SlotNo) (j : Job) : State :=
  let t := (s.withdraw i j).completeJob i .cancelled .aborted
  match j.state with
  | .acquiring => t.afterAcquisition
  | .waitReduce => t.takeHead
  | .queued | .reducing | .complete => t

/-- What CANCEL answers (R51, R55). -/
def cancel (s : State) (p : PortNo) (payload : List Byte) : Reply :=
  match s.lookup (payloadHandle payload) with
  | none => refuse .unknownJob s
  | some j =>
    if !(j.opensTo p) then refuse .notPermitted s
    else if j.state = .reducing ∨ j.state = .complete then refuse .tooLate s
    else succeed (s.cancelJob (payloadHandle payload).slot j)

/-- CANCEL (R51 to R57). -/
def execCancel (p : PortNo) (bytes : List Byte) (s : State) : Host.Outcome State Fault Refusal :=
  request p 0x02 bytes s (cancel s p)

/-- What READ JOB answers (R58). -/
def readJob (s : State) (p : PortNo) (payload : List Byte) : Reply :=
  match s.lookup (payloadHandle payload) with
  | none => refuse .unknownJob s
  | some j => if j.opensTo p then .answer .success (jobResponse j) s else refuse .notPermitted s

/-- READ_JOB (R58). -/
def execReadJob (p : PortNo) (bytes : List Byte) (s : State) : Host.Outcome State Fault Refusal :=
  request p 0x03 bytes s (readJob s p)

end Sys2Proof.Machine
end

