-- ==== Sys2Proof/Machine/Limits.lean ====
section
/-! DEFINITION. Chapter 8: the requests of the Limit Store, and the Binner. -/

namespace Sys2Proof.Machine

open Sys2Proof

/-- The largest value of each limit field, in the order of the table of R133. -/
def fieldMax (i : FieldNo) : Nat :=
  match i.val with
  | 0 => 65535
  | 1 => 2147483647
  | 2 | 4 => 2 ^ 48 - 1
  | 3 | 5 => 2 ^ 40 - 1
  | _ => 2 ^ 56 - 1

/-- The action of a WRITE LIMIT: SET with a value, or REMOVE (R136). -/
inductive LimitAction where
  | set (value : Nat)
  | remove
deriving DecidableEq, Repr

/-- The action in a WRITE LIMIT payload for field `i`; none for an unknown action or a SET outside the field's range (R136, R175). -/
def limitActionOf (payload : List Byte) (i : FieldNo) : Option LimitAction :=
  let value := field payload 3 8
  if byteAt payload 2 = 0 then some .remove
  else if byteAt payload 2 = 1 then if value ≤ fieldMax i then some (.set value) else none
  else none

/-- What an action makes of a field (R136). -/
def LimitAction.result : LimitAction → Option Nat
  | .set v => some v
  | .remove => none

/-- A set that is not FROZEN after a WRITE LIMIT: an EMPTY one becomes OPEN (R136). -/
def LimitSet.write (l : LimitSet) (i : FieldNo) (a : LimitAction) : LimitSet :=
  { l with state := .opened, fields := l.fields.set i a.result }

/-- What WRITE LIMIT answers (R136, entry 16). -/
def writeLimit (s : State) (payload : List Byte) : Reply :=
  match named 8 (byteAt payload 0), named 12 (byteAt payload 1) with
  | some x, some i =>
    match limitActionOf payload i with
    | none => refuse .badValue s
    | some a =>
      if s.limits[x].state = .frozen then refuse .limitsFrozen s
      else succeed (s.setLimit x (s.limits[x].write i a))
  | _, _ => refuse .badValue s

/-- WRITE_LIMIT (R136). -/
def execWriteLimit (p : PortNo) (bytes : List Byte) (s : State) : Host.Outcome State Fault Refusal :=
  request p 0x26 bytes s (writeLimit s)

/-- What FREEZE answers (R137). -/
def freeze (s : State) (payload : List Byte) : Reply :=
  match named 8 (byteAt payload 0) with
  | none => refuse .badValue s
  | some x =>
    match s.limits[x].state with
    | .empty => refuse .limitsEmpty s
    | .opened => succeed (s.setLimit x { s.limits[x] with state := .frozen })
    | .frozen => succeed s

/-- FREEZE (R137). -/
def execFreeze (p : PortNo) (bytes : List Byte) (s : State) : Host.Outcome State Fault Refusal :=
  request p 0x27 bytes s (freeze s)

/-- What THAW answers (R138). -/
def thaw (s : State) (payload : List Byte) : Reply :=
  match named 8 (byteAt payload 0) with
  | none => refuse .badValue s
  | some x =>
    match s.limits[x].state with
    | .empty | .opened => succeed s
    | .frozen =>
      if 0 < s.limits[x].references then refuse .limitsInUse s
      else succeed (s.setLimit x { s.limits[x] with state := .opened })

/-- THAW (R138). -/
def execThaw (p : PortNo) (bytes : List Byte) (s : State) : Host.Outcome State Fault Refusal :=
  request p 0x28 bytes s (thaw s)

/-- What READ LIMITS answers (R140). -/
def readLimits (s : State) (payload : List Byte) : Reply :=
  match named 8 (byteAt payload 0) with
  | none => refuse .badValue s
  | some x => .answer .success (limitsResponse s.limits[x]) s

/-- READ_LIMITS (R140). -/
def execReadLimits (p : PortNo) (bytes : List Byte) (s : State) : Host.Outcome State Fault Refusal :=
  request p 0x08 bytes s (readLimits s)

/-! ### The Binner -/

/-- A test that fails when a figure exceeds a present limit, with the verdict it then gives (R142). -/
def exceeds (limit : Option Nat) (figure : Nat) (bin : Bin) (test : FailedTest) : Option Verdict :=
  match limit with
  | none => none
  | some m => if m < figure then some ⟨bin, some test, none⟩ else none

/-- The test at band position `b`: a present limit fails on an absent band as INCOMPLETE, on a larger figure as BAND (R145). -/
def bandTest (limit : Option Nat) (r : Result) (b : Fin 4) : Option Verdict :=
  match limit with
  | none => none
  | some m =>
    match r.bands[b.val]?.bind BandResult.rms16 with
    | none => some ⟨.incomplete, some .bandRms16Max, some b⟩
    | some x => if m < x then some ⟨.band, some .bandRms16Max, some b⟩ else none

/-- The thirteen tests in the order of R143: each the verdict it fails with, or none. -/
def binTests (fields : Vector (Option Nat) 12) (runts : Nat) (r : Result) : List (Option Verdict) :=
  [if 0 < r.slips then some ⟨.edge, some .slips, none⟩ else none,
    exceeds fields[0] runts .edge .runtMax,
    exceeds fields[1] r.fo.natAbs .freq .foMax,
    exceeds fields[2] r.pjRms16 .period .pjRms16Max,
    exceeds fields[3] r.pjPp .period .pjPpMax,
    exceeds fields[4] r.c2cRms16 .c2c .c2cRms16Max,
    exceeds fields[5] r.c2cMax .c2c .c2cMaxMax,
    exceeds fields[6] r.tieRms16 .tie .tieRms16Max,
    exceeds fields[7] r.tiePp .tie .tiePpMax,
    bandTest fields[8] r 0,
    bandTest fields[9] r 1,
    bandTest fields[10] r 2,
    bandTest fields[11] r 3]

/-- The first verdict of a list of tests, PASS when none fails (R143). -/
def firstFailure : List (Option Verdict) → Verdict
  | [] => ⟨.pass, none, none⟩
  | some v :: _ => v
  | none :: r => firstFailure r

/-- The Binner: NOT_BINNED without a limit set, else the first failing test against the set's fields (R141 to R146). -/
def State.binOf (s : State) (limitSet : Option SetNo) (runts : Nat) (r : Result) : Verdict :=
  match limitSet with
  | none => ⟨.notBinned, none, none⟩
  | some x => firstFailure (binTests s.limits[x].fields runts r)

end Sys2Proof.Machine
end

