-- ==== Sys2Proof/Machine/Ports.lean ====
section
/-! DEFINITION. Chapter 11: select, the end of a response, unknown requests, READ STATUS, port resets, device reset and power-on. -/

namespace Sys2Proof.Machine

open Sys2Proof

/-- The ports take frames: the RESET pin is released and 5 ms have passed since the supply was valid (R183, R184). -/
def State.takesFrames (s : State) : Bool := !s.resetPin && s.settled

/-- SELECT_ASSERTED: a WAITING port begins a frame with byte count 0, if the part takes frames (R172, R183, R184). A select input
that is asserted already is not asserted again. -/
def execSelectAsserted (p : PortNo) (s : State) : Host.Outcome State Fault Refusal :=
  if s.ports[p].selected then .next s
  else if s.takesFrames then .next (s.setPort p ⟨.receiving, [], [], true⟩)
  else .next (s.setPort p { s.ports[p] with selected := true })

/-- SELECT_RELEASED: the select period ends; a partial request is discarded, the rest of a response is not sent (R172, R174). -/
def execSelectReleased (p : PortNo) (s : State) : Host.Outcome State Fault Refusal :=
  .next (s.setPort p (.initial false))

/-- LAST_RESPONSE_BYTE_CLOCKED_OUT: an ANSWERING port is TRAILING (R172). -/
def execLastResponseByteClockedOut (p : PortNo) (s : State) : Host.Outcome State Fault Refusal :=
  if s.ports[p].framing = .answering then .next (s.setPort p { s.ports[p] with framing := .trailing, response := [] })
  else .next s

/-- UNKNOWN_REQUEST: a frame whose code is not in the table is answered UNKNOWN_REQUEST, or MALFORMED with a length byte above 60
(R173). -/
def execUnknownRequest (p : PortNo) (code : UnknownCode) (bytes : List Byte) (s : State) :
    Host.Outcome State Fault Refusal :=
  request p code.code bytes s fun _ => refuse .unknownRequest s

/-- READ_STATUS (R180). -/
def execReadStatus (p : PortNo) (bytes : List Byte) (s : State) : Host.Outcome State Fault Refusal :=
  request p 0x05 bytes s fun _ => .answer .success (statusResponse s p) s

/-- RESET_OWN_PORT: a port reset of the port it is sent on (R181). -/
def execResetOwnPort (p : PortNo) (bytes : List Byte) (s : State) : Host.Outcome State Fault Refusal :=
  request p 0x0B bytes s fun _ => succeed (s.portReset p)

/-- What RESET PORT answers (R181). -/
def resetPort (s : State) (payload : List Byte) : Reply :=
  match named 4 (byteAt payload 0) with
  | none => refuse .badValue s
  | some q => succeed (s.portReset q)

/-- RESET_PORT: a port reset of the port it names (R181). -/
def execResetPort (p : PortNo) (bytes : List Byte) (s : State) : Host.Outcome State Fault Refusal :=
  request p 0x30 bytes s (resetPort s)

/-- The values of power-on reset with the input pins and the waiting commands as they stand (R184, entries 12, 13 and 24). -/
def State.poweredOn (s : State) : State :=
  { State.reset with
    lanes := Vector.ofFn fun k : LaneNo => .initial s.lanes[k].level
    ports := Vector.ofFn fun p : PortNo => .initial s.ports[p].selected
    resetPin := s.resetPin
    draws := s.draws
    pending := s.pending }

/-- DEVICE_RESET: every block takes its device-reset values, which are those of power-on but for the Reference Monitor and the sample
words, which are kept; P0's ATTN follows REFLOST (R183 and the rules it lists). -/
def execDeviceReset (s : State) : Host.Outcome State Fault Refusal :=
  .next { s.poweredOn with
    ref := s.ref
    mem := s.mem
    queues := Vector.ofFn fun p : PortNo => .initial (attnLevel p [] s.ref.reflost)
    resetPin := true
    settled := s.settled }

/-- DEVICE_RESET_RELEASE: the RESET pin is released (R183). -/
def execDeviceResetRelease (s : State) : Host.Outcome State Fault Refusal := .next { s with resetPin := false }

/-- POWER_ON_RESET (R184). -/
def execPowerOnReset (s : State) : Host.Outcome State Fault Refusal := .next s.poweredOn

/-- POWER_ON_SETTLE_EXPIRY: 5 ms after the supply is valid (R184). -/
def execPowerOnSettleExpiry (s : State) : Host.Outcome State Fault Refusal := .next { s with settled := true }

end Sys2Proof.Machine
end

