-- ==== Sys2Proof/Machine/Reduction.lean ====
section
/-! DEFINITION. Chapter 7: the reduction arithmetic stage by stage on exact integers (R117), and the completion of a reduction. -/

namespace Sys2Proof.Machine

open Sys2Proof

/-! ### Integer square root (R117) -/

/-- The root `r` improved by the bits `k - 1` to 0, each kept when the square still does not exceed `v`. -/
def isqrtBits (v : Nat) : Nat → Nat → Nat
  | 0, r => r
  | k + 1, r => isqrtBits v k (if (r + 2 ^ k) * (r + 2 ^ k) ≤ v then r + 2 ^ k else r)

/-- The largest integer whose square does not exceed `v` (R117). -/
def isqrt (v : Nat) : Nat := isqrtBits v (v.log2 / 2 + 1) 0

/-! ### Sums and extremes -/

/-- The sum of the squares of signed figures. -/
def sumSquares (l : List Int) : Nat := (l.map fun x => x.natAbs * x.natAbs).sum

/-- The largest of some counts, 0 for none. -/
def largest (l : List Nat) : Nat := l.foldl max 0

/-- The smallest of a first count and the rest. -/
def smallest : List Nat → Nat
  | [] => 0
  | x :: r => r.foldl min x

/-- The largest of 0 and some signed figures. -/
def largestInt (l : List Int) : Int := l.foldl max 0

/-- The smallest of 0 and some signed figures. -/
def smallestInt (l : List Int) : Int := l.foldl min 0

/-! ### Stage 1: intervals and cumulative positions (R118) -/

/-- The intervals I_k = (T_(k+1) − T_k) mod 2⁴⁸. -/
def intervals : List Timestamp → List Nat
  | a :: b :: r => ticksBetween a b :: intervals (b :: r)
  | _ => []

/-- The cumulative positions c_0 to c_M from a start. -/
def cumulative (start : Nat) : List Nat → List Nat
  | [] => [start]
  | i :: r => start :: cumulative (start + i) r

/-! ### Stage 2: slips and extremes (R119, R120) -/

/-- An interval is a slip: more than one eighth of Inom away from Inom (R119). -/
def isSlip (inom i : Nat) : Bool := decide (i < inom - inom / 8) || decide (inom + inom / 8 < i)

/-- The steps I_(k+1) − I_k. -/
def steps : List Nat → List Int
  | a :: b :: r => ((b : Int) - a) :: steps (b :: r)
  | _ => []

/-! ### Stage 3: mean period and frequency offset (R121, R122) -/

/-- MP16 (R121). -/
def meanPeriod16 (total m d : Nat) : Nat := (16 * total + m * d / 2) / (m * d)

/-- FO before it is bounded: round half away from zero (R122). -/
def frequencyOffset (total m inom : Nat) : Int :=
  let num : Int := 1000000000 * ((total : Int) - m * inom)
  let den := m * inom
  num.sign * ((2 * num.natAbs + den) / (2 * den) : Nat)

/-- FO bounded to ±2,147,483,647 (R122). -/
def boundFo (f : Int) : Int := max (-Config.foLimit) (min Config.foLimit f)

/-! ### Stages 4 and 5: RMS figures (R123, R124) -/

/-- PJ_RMS16 from the M deviations (R123). -/
def periodRms16 (d : List Int) : Nat :=
  let m := d.length
  isqrt (256 * (m * sumSquares d - d.sum.natAbs * d.sum.natAbs) / (m * m))

/-- The root mean square of figures about zero in units of 1/16 (R124, R126). -/
def rms16 (l : List Int) : Nat := isqrt (256 * sumSquares l / l.length)

/-! ### Stage 6: errors against the chord (R125, R126) -/

/-- The chord position h_k, rounded half up (R125). -/
def chord (total m k : Nat) : Nat := (2 * k * total + m) / (2 * m)

/-- The errors x_k = c_k − h_k from position `k` on. -/
def chordErrors (total m : Nat) : Nat → List Nat → List Int
  | _, [] => []
  | k, c :: r => ((c : Int) - chord total m k) :: chordErrors total m (k + 1) r

/-! ### Stage 7: bands (R127 to R129) -/

/-- The first `k` blocks of `w` errors (R128). -/
def blocks (w : Nat) : Nat → List Int → List (List Int)
  | 0, _ => []
  | k + 1, l => l.take w :: blocks w k (l.drop w)

/-- The residual of a block: W × sq − sx² (R128). -/
def blockResidual (w : Nat) (b : List Int) : Nat := w * sumSquares b - b.sum.natAbs * b.sum.natAbs

/-- BAND_RMS16 of a present band (R128). -/
def bandRms16 (w : Nat) (x : List Int) : Nat :=
  let k := x.length / w
  isqrt (256 * ((blocks w k x).map (blockResidual w)).sum / (k * (w * w)))

/-- FNOM_HZ (R129). -/
def nominalHz (pnom : Nat) : Nat := Config.ticksPerSecond / pnom

/-- A band of the result: absent when N is below 2 × W (R127, R129). -/
def bandResult (d pnom : Nat) (x : List Int) (w : Nat) : BandResult where
  w := w
  loHz := nominalHz pnom / (d * w)
  rms16 := if x.length < 2 * w then none else some (bandRms16 w x)

/-! ### The result (R130) -/

/-- The result of N timestamps under a recipe (R117 to R130). -/
def reduce (t : List Timestamp) (d pnom : Nat) (bands : List Nat) : Result :=
  let inom := d * pnom
  let is := intervals t
  let m := is.length
  let total := is.sum
  let x := chordErrors total m 0 (cumulative 0 is)
  let fo := frequencyOffset total m inom
  { slips := is.countP (isSlip inom)
    pjPp := largest is - smallest is
    c2cMax := largest ((steps is).map Int.natAbs)
    mp16 := meanPeriod16 total m d
    fo := boundFo fo
    foSat := decide (boundFo fo ≠ fo)
    pjRms16 := periodRms16 (is.map fun i => (i : Int) - inom)
    c2cRms16 := rms16 (steps is)
    tiePp := (largestInt x - smallestInt x).toNat
    tieRms16 := rms16 x
    fnomHz := nominalHz pnom
    bandHiHz := nominalHz pnom / (2 * d)
    bands := bands.map (bandResult d pnom x) }

/-! ### Completion of a reduction (R113, R115) -/

/-- The N timestamps of a job, from the first word of its page range (R113). -/
def State.capture (s : State) (j : Job) : List Timestamp := s.mem.readRun j.baseWord j.n

/-- The job with its result and BAND_SHORT (R115 step 1). -/
def Job.reduced (j : Job) (r : Result) : Job := { j with result := some r, bandShort := Sys2Proof.Machine.bandShort r }

/-- The reduction of the job `j` of slot `i` completes: the result is formed, the pages are released, the job is binned and enters
COMPLETE DONE, and the unit takes the next head (R115). -/
def State.completeReduction (s : State) (i : SlotNo) (j : Job) : State :=
  let r := reduce (s.capture j) j.dEffective j.pnom j.bands
  let t := (s.setJob i (j.reduced r)).completeJob i .done (s.binOf j.limitSet j.runts r)
  { t with current := none }.takeHead

/-- REDUCTION_COMPLETE: the reduction in progress finishes (R113, R115). Words past the end of Sample Memory do not exist. -/
def execReductionComplete (s : State) : Host.Outcome State Fault Refusal :=
  match s.current.bind fun h => (s.lookup h).map fun j => (h.slot, j) with
  | none => .next s
  | some (i, j) =>
    if Config.memoryWords < j.baseWord + j.n then .fault (.noSuchWord (j.baseWord + j.n - 1))
    else .next (s.completeReduction i j)

end Sys2Proof.Machine
end

