-- ==== Sys2Proof/Machine/Samples.lean ====
section
/-! DEFINITION. Chapter 6: window descriptors and the reading of samples. -/

namespace Sys2Proof.Machine

open Sys2Proof

/-- What WRITE WINDOW answers (R102). -/
def writeWindow (s : State) (payload : List Byte) : Reply :=
  match named 4 (byteAt payload 0), named 8 (byteAt payload 1), keyOf (byteAt payload 2) with
  | some q, some w, some key =>
    let base := byteAt payload 3
    let length := byteAt payload 4
    if length = 0 ∨ 16 < length ∨ Config.memoryPages < base + length then refuse .badWindow s
    else succeed { s with windows := s.windows.set q (s.windows[q].set w ⟨key, base, length⟩) }
  | _, _, _ => refuse .badWindow s

/-- WRITE_WINDOW (R102). -/
def execWriteWindow (p : PortNo) (bytes : List Byte) (s : State) : Host.Outcome State Fault Refusal :=
  request p 0x23 bytes s (writeWindow s)

/-- The first physical word a READ SAMPLES of a window reads (R101, R105). -/
def Window.word (d : Window) (offset : Nat) : Nat := d.base * Config.pageWords + offset

/-- Some page that the words `a` to `a + count - 1` lie in is held (R106). -/
def State.wordsHeld (s : State) (a count : Nat) : Bool :=
  s.anyHeld (a / Config.pageWords) ((a + count - 1) / Config.pageWords - a / Config.pageWords + 1)

/-- What READ SAMPLES answers (R105, R106). -/
def readSamples (s : State) (p : PortNo) (payload : List Byte) : Reply :=
  let offset := field payload 1 2
  let count := byteAt payload 3
  if count = 0 ∨ 64 < count then refuse .badValue s
  else
    match named 8 (byteAt payload 0) with
    | none => refuse .windowAbsent s
    | some w =>
      let d := s.windows[p][w]
      if d.key = .absent then refuse .windowAbsent s
      else if d.length * Config.pageWords < offset + count then refuse .outOfWindow s
      else if s.wordsHeld (d.word offset) count then refuse .pagesBusy s
      else if Config.memoryWords < d.word offset + count then .fault (.noSuchWord (d.word offset + count - 1))
      else .answer .success ((s.mem.readRun (d.word offset) count).flatMap fun x => leBytes 6 x.toNat) s

/-- READ_SAMPLES (R105 to R107). -/
def execReadSamples (p : PortNo) (bytes : List Byte) (s : State) : Host.Outcome State Fault Refusal :=
  request p 0x06 bytes s (readSamples s p)

end Sys2Proof.Machine
end

