-- ==== Sys2Proof/Machine/Dispatch.lean ====
section
/-! DEFINITION. The meaning of every command, one arm per row of spec/opcode_table.json. -/

namespace Sys2Proof.Machine

open Sys2Proof

def exec (i : Instr) (s : State) : Host.Outcome State Fault Refusal :=
  match i with
  | .selectAsserted p => Sys2Proof.Machine.execSelectAsserted p s
  | .selectReleased p => Sys2Proof.Machine.execSelectReleased p s
  | .unknownRequest p code bytes => Sys2Proof.Machine.execUnknownRequest p code bytes s
  | .submit p bytes => Sys2Proof.Machine.execSubmit p bytes s
  | .cancel p bytes => Sys2Proof.Machine.execCancel p bytes s
  | .readJob p bytes => Sys2Proof.Machine.execReadJob p bytes s
  | .takeCompletion p bytes => Sys2Proof.Machine.execTakeCompletion p bytes s
  | .readStatus p bytes => Sys2Proof.Machine.execReadStatus p bytes s
  | .readSamples p bytes => Sys2Proof.Machine.execReadSamples p bytes s
  | .readLane p bytes => Sys2Proof.Machine.execReadLane p bytes s
  | .readLimits p bytes => Sys2Proof.Machine.execReadLimits p bytes s
  | .readChannel p bytes => Sys2Proof.Machine.execReadChannel p bytes s
  | .readReference p bytes => Sys2Proof.Machine.execReadReference p bytes s
  | .resetOwnPort p bytes => Sys2Proof.Machine.execResetOwnPort p bytes s
  | .resetPort p bytes => Sys2Proof.Machine.execResetPort p bytes s
  | .writeLane p bytes => Sys2Proof.Machine.execWriteLane p bytes s
  | .fillLanes p bytes => Sys2Proof.Machine.execFillLanes p bytes s
  | .fillVisit => Sys2Proof.Machine.execFillVisit s
  | .stopFill p bytes => Sys2Proof.Machine.execStopFill p bytes s
  | .writeWindow p bytes => Sys2Proof.Machine.execWriteWindow p bytes s
  | .writeProfile p bytes => Sys2Proof.Machine.execWriteProfile p bytes s
  | .writeFloor p bytes => Sys2Proof.Machine.execWriteFloor p bytes s
  | .writeLimit p bytes => Sys2Proof.Machine.execWriteLimit p bytes s
  | .freeze p bytes => Sys2Proof.Machine.execFreeze p bytes s
  | .thaw p bytes => Sys2Proof.Machine.execThaw p bytes s
  | .hold p bytes => Sys2Proof.Machine.execHold p bytes s
  | .release p bytes => Sys2Proof.Machine.execRelease p bytes s
  | .checkChannels p bytes => Sys2Proof.Machine.execCheckChannels p bytes s
  | .stopCheck p bytes => Sys2Proof.Machine.execStopCheck p bytes s
  | .writeService p bytes => Sys2Proof.Machine.execWriteService p bytes s
  | .clearReflost p bytes => Sys2Proof.Machine.execClearReflost p bytes s
  | .clearRefEvents p bytes => Sys2Proof.Machine.execClearRefEvents p bytes s
  | .refinRisingEdge => Sys2Proof.Machine.execRefinRisingEdge s
  | .referenceLocked => Sys2Proof.Machine.execReferenceLocked s
  | .absenceExpiry => Sys2Proof.Machine.execAbsenceExpiry s
  | .lineTimeAdvance => Sys2Proof.Machine.execLineTimeAdvance s
  | .lineTimeRcAdvance => Sys2Proof.Machine.execLineTimeRcAdvance s
  | .laneInputTransition k fine => Sys2Proof.Machine.execLaneInputTransition k fine s
  | .qualifiedEdge c fine => Sys2Proof.Machine.execQualifiedEdge c fine s
  | .starvationExpiry c => Sys2Proof.Machine.execStarvationExpiry c s
  | .reductionComplete => Sys2Proof.Machine.execReductionComplete s
  | .calEdge e0 e1 e2 e3 => Sys2Proof.Machine.execCalEdge e0 e1 e2 e3 s
  | .deviceReset => Sys2Proof.Machine.execDeviceReset s
  | .deviceResetRelease => Sys2Proof.Machine.execDeviceResetRelease s
  | .powerOnReset => Sys2Proof.Machine.execPowerOnReset s
  | .powerOnSettleExpiry => Sys2Proof.Machine.execPowerOnSettleExpiry s
  | .lastResponseByteClockedOut p => Sys2Proof.Machine.execLastResponseByteClockedOut p s

end Sys2Proof.Machine
end

