-- ==== Sys2Proof/Safety.lean ====
section
/-! DEFINITION. What counts as a sound state of the part, in the terms the claims use: the agreements between blocks that the manual
states of the whole part, each kept by every step. -/

namespace Sys2Proof.Machine

open Sys2Proof

/-! ### Memory, reference, queues -/

/-- Sample Memory is in its canonical form (R95). -/
abbrev State.memoryCanonical (s : State) : Prop := s.mem.wf

/-- REFLOST is set outside LOCKED, line time is COARSE exactly in LOCKED, the qualification count stays within its range, the
accumulator holds less than a unit, the absence detector and the RC divider's unit were started no later than in the present coarse period,
and the present instant lies no later than their latest ends, that of the unit outside LOCKED (R4, R5, R6, R7, R11). -/
abbrev State.referenceAgrees (s : State) : Prop :=
  (s.ref.state ≠ .locked → s.ref.reflost = true) ∧ (s.ref.source = .coarse ↔ s.ref.state = .locked) ∧
    s.ref.qualified ≤ Config.qualifyingEdges ∧ s.ref.accumulator < Config.accumulatorFull ∧
    s.ref.absenceEnd < Config.absenceLatest + Config.ticksPerCoarse ∧ s.ref.fine.toNat ≤ s.ref.absenceEnd ∧
    s.ref.rcEnd < Config.rcUnitLatest + Config.ticksPerCoarse ∧ (s.ref.state ≠ .locked → s.ref.fine.toNat ≤ s.ref.rcEnd)

/-- The queue of `p`: at most 8 records; completions wait only behind 8 records, at most four of P0's and none of a station's being
service records; ATTN follows the queue and, on P0, REFLOST (R148, R151, R152, R155, R156). -/
abbrev State.queueAgrees (s : State) (p : PortNo) : Prop :=
  s.queues[p].queue.length ≤ Config.queueDepth ∧
    (s.queues[p].waiting ≠ [] → s.queues[p].queue.length = Config.queueDepth) ∧
    s.queues[p].waiting.countP Waiting.isService ≤ (if p = 0 then Config.serviceWaiting else 0) ∧
    s.queues[p].attn = attnLevel p s.queues[p].queue s.ref.reflost

/-- Every port's queue agrees. -/
abbrev State.queuesAgree (s : State) : Prop := ∀ p : PortNo, s.queueAgrees p

/-! ### Channels, lanes, Crosspoint, hold and check -/

/-- CONNECTED CHANNEL mirrors the Crosspoint, and edge qualification runs on connected lanes alone (R18, R20, R24). -/
abbrev State.lanesMirror (s : State) : Prop :=
  (∀ k : LaneNo, ∀ c : ChannelNo, s.lanes[k].connected = some c ↔ s.xpoint[c] = .lane k) ∧
    ∀ k : LaneNo, s.lanes[k].qualifier.isSome = s.lanes[k].connected.isSome

/-- An IDLE channel has no entry, job or running timer; an ACQUIRING one has a lane, a job and a running timer, under a reference
LOCKED with REFLOST clear; a CHECKING one has CAL and belongs to the running check (R80, R81, R88, R90, R161). -/
abbrev State.channelAgrees (s : State) (c : ChannelNo) : Prop :=
  (s.chans[c].activity = .idle → s.xpoint[c] = .none ∧ s.chans[c].job = none ∧ s.chans[c].timer = none) ∧
    (s.chans[c].activity = .acquiring →
      (∃ k : LaneNo, s.xpoint[c] = .lane k) ∧ s.chans[c].job.isSome ∧ s.chans[c].timer.isSome ∧ s.ref.state = .locked ∧
        s.ref.reflost = false) ∧
    (s.chans[c].activity = .checking →
      s.xpoint[c] = .cal ∧ s.chans[c].job = none ∧ s.chans[c].timer = none ∧ s.verif.running = true ∧
        s.verif.selects c = true)

/-- A check runs in HOLD_ACTIVE under LOCKED, with every selected channel CHECKING; it has an edge left, which falls in the present
coarse period or within the 65 after it; and from edge 3 on every edge has scored an interval (R160, R161, R162, R164, R165, R168). -/
abbrev State.checkAgrees (s : State) : Prop :=
  s.verif.running = true → s.hold = .active ∧ s.ref.state = .locked ∧
    (∀ c : ChannelNo, s.verif.selects c = true → s.chans[c].activity = .checking) ∧
    1024 ≤ s.verif.e ∧ s.verif.emitted < s.verif.e + 3 ∧ s.verif.scored = s.verif.emitted - 3 ∧
    (coarsePart s.verif.nextEdge - s.ref.counter).toNat ≤ 65

/-- HOLD_ACTIVE with no channel ACQUIRING, HOLD_PENDING with at least one (R74). -/
abbrev State.holdAgrees (s : State) : Prop :=
  (s.hold = .active → ∀ c : ChannelNo, s.chans[c].activity ≠ .acquiring) ∧
    (s.hold = .pending → ∃ c : ChannelNo, s.chans[c].activity = .acquiring)

/-- Channels, lanes, Crosspoint, hold, check and reference agree. -/
abbrev State.linksAgree (s : State) : Prop :=
  s.lanesMirror ∧ (∀ c : ChannelNo, s.channelAgrees c) ∧ s.checkAgrees ∧ s.holdAgrees

/-! ### Counts -/

/-- The jobs in the table that `sel` selects, counted. -/
def State.countJobs (s : State) (sel : Job → Bool) : Nat := (List.finRange 16).countP fun i => (s.jobAt i).any sel

/-- Each held count is the number of the port's jobs; each reference count is the number of jobs naming the set; a set a job names is
FROZEN; an EMPTY set has no field (R47, R133, R134). -/
abbrev State.countsAgree (s : State) : Prop :=
  (∀ p : PortNo, s.held[p] = s.countJobs fun j => decide (j.port = p)) ∧
    (∀ x : SetNo, s.limits[x].references = s.countJobs fun j => decide (j.limitSet = some x)) ∧
    (∀ i : SlotNo, ∀ j ∈ s.jobAt i, ∀ x ∈ j.limitSet, s.limits[x].state = .frozen) ∧
    ∀ x : SetNo, s.limits[x].state = .empty → ∀ f : FieldNo, s.limits[x].fields[f] = none

/-! ### Jobs -/

/-- The job `h` names is in the state `st`. -/
abbrev State.names (s : State) (h : Handle) (st : JobState) : Prop := ∃ j ∈ s.lookup h, j.state = st

/-- An ACQUIRING job and its channel name each other and keep the same counts (R37, R66, R81, R86). -/
abbrev State.acquisitionsAgree (s : State) : Prop :=
  (∀ c : ChannelNo, ∀ h ∈ s.chans[c].job, ∃ j ∈ s.lookup h, j.state = .acquiring ∧ j.channel = some c) ∧
    ∀ i : SlotNo, ∀ j ∈ s.jobAt i,
      (j.state = .acquiring ↔ j.channel.isSome) ∧
        ∀ c ∈ j.channel, s.chans[c].job = some (s.handleAt i) ∧ s.chans[c].n = j.n ∧ s.chans[c].captured = j.captured

/-- The FIFO holds the WAIT_REDUCE jobs once each, the current job is the REDUCING one, and an IDLE unit leaves no entry waiting
(R110, R112). -/
abbrev State.reductionAgrees (s : State) : Prop :=
  s.fifo.Nodup ∧ (∀ h ∈ s.fifo, s.names h .waitReduce) ∧
    (∀ i : SlotNo, ∀ j ∈ s.jobAt i, j.state = .waitReduce → s.handleAt i ∈ s.fifo) ∧
    (∀ h ∈ s.current, s.names h .reducing) ∧
    (∀ i : SlotNo, ∀ j ∈ s.jobAt i, j.state = .reducing → s.current = some (s.handleAt i)) ∧
    (s.current = none → s.fifo = [])

/-- A held page belongs to a live job whose range it lies in, and a live job holds its whole range (R97). -/
abbrev State.pagesAgree (s : State) : Prop :=
  (∀ q : PageNo, ∀ h ∈ s.pages[q], ∃ j ∈ s.lookup h, j.state ≠ .complete ∧ inPageRange j.basePage (pagesFor j.n) q = true) ∧
    ∀ i : SlotNo, ∀ j ∈ s.jobAt i, j.state ≠ .complete →
      ∀ q : PageNo, inPageRange j.basePage (pagesFor j.n) q = true → s.pages[q] = some (s.handleAt i)

/-- A job's fields fit its state: OUTCOME and BIN exactly in COMPLETE, a RESULT exactly for DONE; no timestamp and no runt while
QUEUED, fewer than N timestamps while ACQUIRING, N of them from WAIT_REDUCE to DONE (R37, R49, R132). -/
abbrev Job.agrees (j : Job) : Prop :=
  (j.state = .complete ↔ j.outcome.isSome) ∧ (j.state = .complete ↔ j.verdict.isSome) ∧
    (j.result.isSome ↔ j.outcome = some .done) ∧ 8 ≤ j.n ∧ (j.state = .queued → j.captured = 0 ∧ j.runts = 0) ∧
    (j.state = .acquiring → j.captured < j.n) ∧ (j.state = .waitReduce → j.captured = j.n) ∧
    (j.state = .reducing → j.captured = j.n) ∧ (j.outcome = some .done → j.captured = j.n)

/-- The job table agrees with the channels, the Reduction Unit and the page hold map. -/
abbrev State.jobsAgree (s : State) : Prop :=
  s.acquisitionsAgree ∧ s.reductionAgrees ∧ s.pagesAgree ∧ ∀ i : SlotNo, ∀ j ∈ s.jobAt i, j.agrees

/-! ### Bounds -/

/-- Windows, jobs and acquisitions lie within Sample Memory, and the arbiter's settings within their ranges (R43, R62, R69, R70, R80,
R101). -/
abbrev State.inBounds (s : State) : Prop :=
  (∀ p : PortNo, ∀ w : WindowNo, 1 ≤ s.windows[p][w].length ∧ s.windows[p][w].length ≤ 16 ∧
      s.windows[p][w].base + s.windows[p][w].length ≤ Config.memoryPages) ∧
    (∀ i : SlotNo, ∀ j ∈ s.jobAt i, 8 ≤ j.n ∧ j.baseWord + j.n ≤ Config.memoryWords) ∧
    (∀ c : ChannelNo, s.chans[c].activity = .acquiring →
      s.chans[c].captured < s.chans[c].n ∧ s.chans[c].baseWord + s.chans[c].n ≤ Config.memoryWords) ∧
    s.floor ≤ 4 ∧ ∀ p : PortNo, s.profiles[p].ceiling ≤ 3 ∧ s.profiles[p].quota ≤ 16

/-! ### Requests by their codes (section 11.2) -/

/-- The requests of one payload length, with their codes and lengths: all but SUBMIT. -/
def fixedRequests : List (Byte × Nat × (PortNo → List Byte → Instr)) :=
  [(0x02, 1, .cancel), (0x03, 1, .readJob), (0x04, 0, .takeCompletion), (0x05, 0, .readStatus), (0x06, 4, .readSamples),
    (0x07, 1, .readLane), (0x08, 1, .readLimits), (0x09, 1, .readChannel), (0x0A, 0, .readReference), (0x0B, 0, .resetOwnPort),
    (0x20, 5, .writeLane), (0x21, 6, .fillLanes), (0x22, 0, .stopFill), (0x23, 5, .writeWindow), (0x24, 3, .writeProfile),
    (0x25, 1, .writeFloor), (0x26, 11, .writeLimit), (0x27, 1, .freeze), (0x28, 1, .thaw), (0x29, 0, .hold), (0x2A, 0, .release),
    (0x2B, 7, .checkChannels), (0x2C, 0, .stopCheck), (0x2D, 2, .writeService), (0x2E, 0, .clearReflost),
    (0x2F, 0, .clearRefEvents), (0x30, 1, .resetPort)]

/-- Something holds of every request and its code: those of one length, SUBMIT, and every unknown code. -/
abbrev ofEveryRequest (P : Byte → (PortNo → List Byte → Instr) → Prop) : Prop :=
  (∀ r ∈ fixedRequests, P r.1 r.2.2) ∧ P 0x01 .submit ∧ ∀ code : UnknownCode, P code.code fun p bytes => .unknownRequest p code bytes

/-- The read requests: those whose rules say that they change nothing. -/
def readRequests : List (PortNo → List Byte → Instr) :=
  [.readJob, .readStatus, .readSamples, .readLane, .readLimits, .readChannel, .readReference]

/-- The bytes of a frame after its code byte: the length byte, then the payload (R173). -/
def framed (payload : List Byte) : List Byte := BitVec.ofNat 8 payload.length :: payload

/-- Port `p` is RECEIVING, and the bytes it has received so far, if any, are the first of `frame` (R172). -/
abbrev State.hears (s : State) (p : PortNo) (frame : List Byte) : Prop :=
  s.ports[p].framing = .receiving ∧ s.ports[p].received <+: frame

/-- The part after port `p` has taken a request and answers it: `code` and `payload` received, the response of `status` and `body`;
nothing else differs (R172, R175). -/
def State.answered (s : State) (p : PortNo) (code : Byte) (payload : List Byte) (status : Status) (body : List Byte) : State :=
  { s with
    ports := s.ports.set p
      { framing := .answering
        received := code :: framed payload
        response := responseBytes status body
        selected := s.ports[p].selected } }

/-- Whatever part of its frame port `p` has received already, the request of this code and payload gives the next state `t`, answered
with `status` and `body`. -/
def State.takes (s : State) (request : PortNo → List Byte → Instr) (code : Byte) (p : PortNo) (payload : List Byte) (t : State)
    (status : Status) (body : List Byte) : Prop :=
  s.hears p (code :: framed payload) → exec (request p (framed payload)) s = .next (t.answered p code payload status body)

/-- The request is refused with `status`: an empty response payload and no other change. -/
abbrev State.refuses (s : State) (request : PortNo → List Byte → Instr) (code : Byte) (p : PortNo) (payload : List Byte)
    (status : Status) : Prop := s.takes request code p payload s status []

/-- The first code of a list whose condition holds (00, Conventions). -/
def firstCode (l : List (Bool × Status)) : Option Status := (l.find? Prod.fst).map Prod.snd

/-- The lane's owner keeps the station `p` out (R19). -/
def keepsOut (o : Owner) (p : PortNo) : Bool :=
  match o with
  | .any => false
  | .p1 => decide (p ≠ 0 ∧ p ≠ 1)
  | .p2 => decide (p ≠ 0 ∧ p ≠ 2)
  | .p3 => decide (p ≠ 0 ∧ p ≠ 3)

/-- The nine conditions of R42 for a SUBMIT on port `p`, in their order, each with its code. -/
def State.submitConditions (s : State) (p : PortNo) (f : SubmitFields) : List (Bool × Status) :=
  let window := named 8 f.window
  [((named 32 f.lane).all fun k => decide (s.lanes[k].config.state = .offline), .badLane),
    ((named 32 f.lane).any fun k => keepsOut s.lanes[k].config.owner p, .laneNotOwned),
    (decide (f.pnom < 40960 ∨ 16384000 < f.pnom ∨ f.d = 0 ∨ 4096 < f.d ∨ f.n < 8 ∨ 16384 < f.n ∨ 4 < f.bands.length ∨
      (∃ w ∈ f.bands, w ∉ [4, 8, 16, 32, 64, 128, 256, 512, 1024]) ∨ 3 < f.priority), .badRecipe),
    (window.all fun w => decide (s.windows[p][w].key ≠ .readWrite), .windowAbsent),
    (window.any fun w => decide (s.windows[p][w].length * 1024 < f.n), .windowShort),
    (window.any fun w => decide (∃ q : PageNo, s.windows[p][w].base ≤ q.val ∧
      q.val < s.windows[p][w].base + (f.n + 1023) / 1024 ∧ s.pages[q].isSome), .pagesBusy),
    (decide (f.limitSet ≠ 255) && (named 8 f.limitSet).all fun x => decide (s.limits[x].state ≠ .frozen), .limitsOpen),
    (decide (s.profiles[p].quota ≤ s.held[p]), .quota),
    (decide (∀ i : SlotNo, (s.jobAt i).isSome), .tableFull)]

/-- The job an accepted SUBMIT makes (R43 to R46). -/
def acceptedJob (s : State) (p : PortNo) (f : SubmitFields) (k : LaneNo) (w : WindowNo) : Job where
  port := p
  tag := f.tag
  sequence := s.seqCounter
  lane := k
  pnom := f.pnom
  dRequested := f.d
  dEffective := if 262144 ≤ f.d * f.pnom then f.d else (262144 + (f.pnom - 1)) / f.pnom
  n := f.n
  bands := f.bands
  prioRequested := f.priority
  prioEffective := min f.priority s.profiles[p].ceiling
  window := w
  basePage := s.windows[p][w].base
  windowLength := s.windows[p][w].length
  limitSet := if f.limitSet = 255 then none else named 8 f.limitSet
  state := .queued
  channel := none
  captured := 0
  runts := 0
  clamped := decide (s.profiles[p].ceiling < f.priority)
  raised := decide (f.d * f.pnom < 262144)
  bandShort := false
  outcome := none
  verdict := none
  result := none

/-- The job `j` as it is ended without a result (R49, R146). -/
def Job.aborted (j : Job) (o : EndOutcome) : Job :=
  { j with state := .complete, channel := none, outcome := some o, verdict := some ⟨.aborted, none, none⟩ }

/-- The part after a service record is offered to P0: it enters the queue, with the line time of now and ATTN asserted, when there is
room and nothing waits; else it waits, and with four service records waiting already the oldest of them is discarded and the new one
carries OLDER_DROPPED (R150, R152). -/
def State.reported (s : State) (r : ServiceReport) : State :=
  let q := s.queues[(0 : PortNo)]
  if q.queue.length < 8 ∧ q.waiting = [] then
    { s with queues := s.queues.set 0 ⟨q.queue ++ [.service r s.ref.lineTime (decide (s.ref.source = .rc)) false], [], true⟩ }
  else if q.waiting.countP Waiting.isService < 4 then
    { s with queues := s.queues.set 0 ⟨q.queue, q.waiting ++ [.service r false], q.attn⟩ }
  else { s with queues := s.queues.set 0 ⟨q.queue, q.waiting.eraseP Waiting.isService ++ [.service r true], q.attn⟩ }

/-- From `s` to `t` the job of slot `i` has ended as `done` and nothing else has changed in the table, the held counts, the pages, the
limit sets and the queues: its record is in its port's queue, its slot freed with the next generation, its held count and reference
given up, or it stands COMPLETE at the tail of the waiting completions; no page names its handle (R49, R50, R99, R150, R151). -/
def ended (s t : State) (i : SlotNo) (done : Job) : Prop :=
  let enters := s.queues[done.port].admits = true;
  (∀ q : PageNo, t.pages[q] = if s.pages[q] = some (s.handleAt i) then none else s.pages[q]) ∧
    (∀ i' : SlotNo, i' ≠ i → t.table[i'] = s.table[i']) ∧
    (∀ p : PortNo, p ≠ done.port → t.queues[p] = s.queues[p] ∧ t.held[p] = s.held[p]) ∧
    (∀ x : SetNo, t.limits[x] = { s.limits[x] with
      references := if enters ∧ done.limitSet = some x then s.limits[x].references - 1 else s.limits[x].references }) ∧
    (enters → t.table[i] = ⟨s.table[i].gen + 1, none⟩ ∧ t.held[done.port] = s.held[done.port] - 1 ∧
      t.queues[done.port] = ⟨s.queues[done.port].queue ++
        [.job (s.handleAt i) done s.ref.lineTime (decide (s.ref.source = .rc))], s.queues[done.port].waiting, true⟩) ∧
    (¬ enters → t.table[i] = ⟨s.table[i].gen, some done⟩ ∧ t.held[done.port] = s.held[done.port] ∧
      t.queues[done.port] = { s.queues[done.port] with waiting := s.queues[done.port].waiting ++ [.job (s.handleAt i)] })

/-- The jobs whose completions port `p` has not taken yet, in their order: those with a record in its queue, then those that wait (R148,
R151). -/
def State.completions (s : State) (p : PortNo) : List Handle :=
  (s.queues[p].queue.filterMap fun r => match r with | .job h _ _ _ => some h | .service _ _ _ _ => none) ++
    s.queues[p].waiting.filterMap fun w => match w with | .job h => some h | .service _ _ => none

/-- From `s` to `t` every job that `sel` selects has ended at one event with outcome `o` and no result, and every other slot stays. The
record of each is in its port's queue and its slot freed with the next generation, or it stands COMPLETE and waits. Pages they held are
free, the others as they were; held counts and references have fallen by the jobs that left the table. Each queue has kept its records, and
behind the completions each port had stand those of its ended jobs, all of them, oldest first (R28, R40, R49, R50, R90, R99, R150, R151). -/
def endedTogether (s t : State) (sel : Job → Bool) (o : EndOutcome) (degraded : Bool) : Prop :=
  let ends (i : SlotNo) (j : Job) : Prop := s.jobAt i = some j ∧ sel j = true;
  let left (which : Job → Bool) : Nat := (List.finRange 16).countP fun i => (t.jobAt i).isNone && (s.jobAt i).any which;
  let age (j : Job) : Nat := (s.seqCounter - j.sequence).toNat;
  (∀ i : SlotNo, (∀ j, ¬ ends i j) → t.table[i] = s.table[i]) ∧
    (∀ i j, ends i j →
      (t.table[i] = ⟨s.table[i].gen + 1, none⟩ ∧
        .job (s.handleAt i) (j.aborted o) s.ref.lineTime degraded ∈ t.queues[j.port].queue) ∨
      (t.table[i] = ⟨s.table[i].gen, some (j.aborted o)⟩ ∧ .job (s.handleAt i) ∈ t.queues[j.port].waiting)) ∧
    (∀ q : PageNo, (∀ i j, ends i j → s.pages[q] = some (s.handleAt i) → t.pages[q] = none) ∧
      ((∀ i j, ends i j → s.pages[q] ≠ some (s.handleAt i)) → t.pages[q] = s.pages[q])) ∧
    (∀ p : PortNo, t.held[p] = s.held[p] - left fun j => decide (j.port = p)) ∧
    (∀ x : SetNo, t.limits[x] = { s.limits[x] with
      references := s.limits[x].references - left fun j => decide (j.limitSet = some x) }) ∧
    ∀ p : PortNo, s.queues[p].queue <+: t.queues[p].queue ∧
      ∃ l : List SlotNo, t.completions p = s.completions p ++ l.map s.handleAt ∧ (∀ i, i ∈ l ↔ ∃ j, ends i j ∧ j.port = p) ∧
        l.Pairwise fun i i' => ∀ j j', ends i j → ends i' j' → age j' < age j ∨ (age j' = age j ∧ i.val < i'.val)

/-- `s` with the parts that `ended` speaks of as they are in `t`. -/
def State.withJobsOf (s t : State) : State :=
  { s with table := t.table, held := t.held, pages := t.pages, limits := t.limits, queues := t.queues }

/-- Channel `c` stands as `x` and its connection to lane `k` is cleared, with the lane's edge qualification (R26). -/
def State.freed (s : State) (c : ChannelNo) (k : LaneNo) (x : Channel) : State :=
  { s with
    chans := s.chans.set c x
    xpoint := s.xpoint.set c .none
    lanes := s.lanes.set k { s.lanes[k] with connected := none, qualifier := none } }

/-- What follows at the event that ends an acquisition: a pending hold becomes active when no channel is ACQUIRING, and then the arbiter
decides (R65, R76). -/
def State.decided (s : State) : State :=
  ({ s with
    hold := if s.hold = .pending ∧ ∀ c : ChannelNo, s.chans[c].activity ≠ .acquiring then .active else s.hold } : State).arbitrate

/-- An event at `fine` in the present coarse period is taken (entry 2: the model's own field). -/
def State.upTo (s : State) (fine : Fine) : State := { s with ref := { s.ref with fine := if s.ref.fine ≤ fine then fine else s.ref.fine } }

/-- Nothing is due at an earlier place of the present coarse period (entry 2). -/
abbrev State.quietBefore (s : State) (place : Nat) : Prop := ∀ e ∈ s.due, place ≤ e.1

/-- The command that names an event of the part's own timers; a CAL edge's readings are free values (entry 31). -/
def TimedEvent.command (e : TimedEvent) (draws : Nat) : Instr :=
  match e with
  | .lock => .referenceLocked
  | .edge c fine => .qualifiedEdge c fine
  | .starvation c => .starvationExpiry c
  | .calEdge => .calEdge (Config.readingError draws 0) (Config.readingError draws 1) (Config.readingError draws 2)
    (Config.readingError draws 3)
  | .rcLineTime => .lineTimeRcAdvance
  | .absence => .absenceExpiry
  | .lineTime => .lineTimeAdvance

end Sys2Proof.Machine
end

