-- ==== Sys2Proof/Certificates/Slice0/Obligations.lean ====
section
/-! DEFINITION. The statements for the provers, from the numbered rules of spec/. Each is about every state that meets its premises,
reached by a run or not. -/

open Sys2Proof Sys2Proof.Machine

/-! ### The step, the clock and the reset -/

/-- A step runs the command at the front of the queue on the state with the queue's rest. On an empty queue the part's own clock runs: the
events due in the present coarse period, the coarse clock edge, and what the edge makes due, each at its place; with nothing due, the coarse
clock edge alone (entries 1, 2 and 24: the model's choice). -/
def Obligations.StepRunsFrontCommand : Prop :=
  (∀ s : State,
    (∀ i rest, s.pending = i :: rest → step s = exec i { s with pending := rest }) ∧
      (∀ u t, s.pending = [] → runAll s.due s = .next u → runAll u.tick.ref.dueAtEdge u.tick = .next t → step s = .next t) ∧
      (s.pending = [] → s.due = [] → s.tick.ref.dueAtEdge = [] → step s = .next s.tick)) ∧
  ∀ (s t : State) (place : Nat) (e : TimedEvent) (rest : List DueEvent), e.take (s.upTo (BitVec.ofNat 16 place)) = .next t →
    runAll ((place, e) :: rest) s = runAll rest t

/-- What the clock takes as due in the present coarse period, at what place in it, and nothing else: the lock at 200,000 edges, each edge
that a connected lane has emitted or will emit by the period's end, the end of each starvation timer, the CAL edge, outside LOCKED the latest
end of the RC divider's unit, and the absence detector's latest end that fall in the period (R2, R5, R6, R8, R20, R21, R88, R162; entries 1, 5,
8 and 30). They are taken in the order of their places; at
one place no edge comes after an expiry, and nothing after an absence expiry (R93 gives both orders there: entry 30). Right after a coarse
edge an advance of line time is due at 250,000,000 (R4; entries 3 and 30). The period runs on to a place by taking what is due before it, in
that order (entry 2). What is due first does what its command does there, a CAL edge with free readings, used once (entry 31). -/
def Obligations.DueEvents : Prop :=
  (∀ (s : State) (place : Nat) (e : TimedEvent), (place, e) ∈ s.due ↔
     (e = .lock ∧ place = 0 ∧ s.ref.state = .acquiring ∧ 200000 ≤ s.ref.qualified) ∨
     (∃ (c : ChannelNo) (k : LaneNo) (q : Qualifier) (t : Timestamp), e = .edge c (t.extractLsb' 0 16) ∧
       place = (t.extractLsb' 0 16).toNat ∧ s.xpoint[c] = .lane k ∧
       (s.lanes[k].settle (s.ref.counter ++ (0xFFFF : Fine))).qualifier = some q ∧ t ∈ q.emitted ∧
       t.extractLsb' 16 32 = s.ref.counter) ∨
     (∃ c : ChannelNo, e = .starvation c ∧ s.chans[c].timer = some place ∧ place < 65536) ∨
     (e = .calEdge ∧ place = (s.verif.nextEdge.extractLsb' 0 16).toNat ∧ s.verif.running = true ∧
       s.verif.emitted < s.verif.e + 3 ∧ s.verif.nextEdge.extractLsb' 16 32 = s.ref.counter) ∨
     (e = .rcLineTime ∧ s.ref.state ≠ .locked ∧ place = s.ref.rcEnd ∧ place < 65536) ∨
     (e = .absence ∧ place = s.ref.absenceEnd ∧ place < 65536)) ∧
  (∀ s : State, s.due.Pairwise fun x y => x.1 ≤ y.1) ∧
  (∀ (s : State) (before after : List DueEvent) (place : Nat),
     (∀ (c c' : ChannelNo) (fine : Fine), s.due = before ++ (place, .starvation c) :: after → (place, .edge c' fine) ∉ after) ∧
     (s.due = before ++ (place, .absence) :: after → ∀ e, (place, e) ∉ after)) ∧
  (∀ r : RefMonitor, r.dueAtEdge = if r.state = .locked ∧ 250000000 ≤ r.accumulator then [(0, .lineTime)] else []) ∧
  (∀ (s u : State) (place : Fine), runAll (s.due.filter fun e => e.1 < place.toNat) s = .next u →
     s.passTo place = .next (u.upTo place)) ∧
  ∀ (s t : State) (place : Nat) (e : TimedEvent), (place, e) ∈ s.due → s.quietBefore place →
    e.take (s.upTo (BitVec.ofNat 16 place)) = .next t →
    exec (e.command s.draws) (s.upTo (BitVec.ofNat 16 place)) = .next { t with draws := s.draws }

/-- No command changes the queue of waiting commands, or the number of free values drawn where no CAL edge falls in the present coarse period
(entries 24 and 31: the model's form), and no command but a power-on reset changes the timestamp counter, which time alone advances (R2; that
coarse periods pass in the idle step is entry 1). -/
def Obligations.CommandsLeaveQueueAndClock : Prop :=
  ∀ i s t, exec i s = .next t →
    t.pending = s.pending ∧
      ((s.verif.running = false ∨ s.verif.nextEdge.extractLsb' 16 32 ≠ s.ref.counter) → t.draws = s.draws) ∧ (i ≠ .powerOnReset → t.ref.counter = s.ref.counter)

/-- One coarse clock edge: the counter rises by one and wraps, the accumulator gains 1024 in LOCKED alone (R2, R4). The absence detector
and the running starvation timers end one period sooner, and outside LOCKED the RC divider's unit (R5, R6, R88; held as ticks left by entries 8 and 20, the accumulator's
subtraction following as LINE_TIME_ADVANCE entry 3). A connected lane whose input has held its level for the full
width gives it to its output, and emits an edge that lags the transition by the width if the output changed to the selected level (R21);
any other lane, and all else, stays. -/
def Obligations.CoarseEdge : Prop :=
  ∀ s : State,
    let now : Timestamp := (s.ref.counter + 1) ++ (0 : Fine);
    s.tick.ref = { s.ref with
      counter := s.ref.counter + 1
      fine := 0
      accumulator := if s.ref.state = .locked then s.ref.accumulator + 1024 else s.ref.accumulator
      absenceEnd := s.ref.absenceEnd - 65536
      rcEnd := if s.ref.state = .locked then s.ref.rcEnd else s.ref.rcEnd - 65536 } ∧
    (∀ c : ChannelNo, s.tick.chans[c] = { s.chans[c] with timer := s.chans[c].timer.map fun r => r - 65536 }) ∧
    (∀ k : LaneNo,
      (s.lanes[k].qualifier = none → s.tick.lanes[k] = s.lanes[k]) ∧
      (∀ q, s.lanes[k].qualifier = some q →
        (q.phaseStart = none → s.tick.lanes[k] = s.lanes[k]) ∧
        ∀ start, q.phaseStart = some start →
          ((now - start).toNat < q.filter.val * 4096 → s.tick.lanes[k] = s.lanes[k]) ∧
          (q.filter.val * 4096 ≤ (now - start).toNat → s.tick.lanes[k] = { s.lanes[k] with
            qualifier := some { q with
              output := s.lanes[k].level
              phaseStart := none
              emitted :=
                if q.output ≠ s.lanes[k].level ∧ (s.lanes[k].level = true ↔ q.edge = .rise)
                then q.emitted ++ [start + BitVec.ofNat 48 (q.filter.val * 4096)] else q.emitted } }))) ∧
    { s.tick with ref := s.ref, chans := s.chans, lanes := s.lanes } = s

/-- DEVICE_RESET keeps the Reference Monitor and the sample words and gives every other block its reset values, P0's ATTN following
REFLOST; DEVICE_RESET_RELEASE releases the pin alone (R17, R183). POWER_ON_RESET differs from it by the values of R16, words of 0, P0's
ATTN asserted, and no request taken until POWER_ON_SETTLE_EXPIRY (R16, R184). That pins, queue and draws stay is entries 12, 13, 24 and
31; the generator's next edge and interval of 0 are entry 14's values, the place in the coarse period entry 2's, the
detector's end as ticks left entry 8's. -/
def Obligations.Resets : Prop :=
  (∀ s : State,
     (∃ t, exec .deviceReset s = .next t ∧ t.ref = s.ref ∧ t.mem = s.mem ∧ t.resetPin = true ∧ t.settled = s.settled ∧
       t.pending = s.pending ∧ t.draws = s.draws ∧
       (∀ k : LaneNo, t.lanes[k] = ⟨⟨.offline, .any, .rise, 0⟩, none, s.lanes[k].level, none⟩) ∧
       t.fill = ⟨false, ⟨.offline, .any, .rise, 0⟩, 0, 0, 0, 0, 0⟩ ∧
       (∀ c : ChannelNo, t.xpoint[c] = .none ∧ t.service[c] = .inService ∧
         t.chans[c] = ⟨.idle, none, 0, 8, 1, 16384000000, 0, 0, none, none⟩) ∧
       (∀ i : SlotNo, t.table[i] = ⟨0, none⟩) ∧ t.seqCounter = 0 ∧ t.floor = 0 ∧ t.hold = .running ∧
       (∀ p : PortNo, t.held[p] = 0 ∧ t.profiles[p] = ⟨if p = 0 then 3 else 2, 4⟩ ∧
         t.queues[p] = ⟨[], [], decide (p = 0) && s.ref.reflost⟩ ∧ t.ports[p] = ⟨.waiting, [], [], s.ports[p].selected⟩) ∧
       (∀ q : PageNo, t.pages[q] = none) ∧ (∀ p : PortNo, ∀ w : WindowNo, t.windows[p][w] = ⟨.absent, 0, 1⟩) ∧
       t.fifo = [] ∧ t.current = none ∧
       (∀ x : SetNo, t.limits[x] = ⟨.empty, 0, Vector.replicate 12 none⟩) ∧
       t.verif = ⟨false, 0, 1024, 16, 0, 0x7FFF, 0, 0, Vector.replicate 4 0, 0, 0⟩) ∧
     exec .deviceResetRelease s = .next { s with resetPin := false }) ∧
  (∀ s : State,
     (∃ t u, exec .powerOnReset s = .next t ∧ exec .deviceReset s = .next u ∧
       t.ref = ⟨.absent, 0, 6684672, true, .centre, 0, 0, 0, .rc, 0, 16320000000, none, none⟩ ∧ t.mem = [] ∧ t.settled = false ∧
       (∀ p : PortNo, t.queues[p] = ⟨[], [], decide (p = 0)⟩) ∧
       t = { u with ref := t.ref, mem := t.mem, queues := t.queues, resetPin := s.resetPin, settled := false }) ∧
     exec .powerOnSettleExpiry s = .next { s with settled := true })

/-- The state after reset is sound in every respect that the invariants below keep. -/
def Obligations.ResetIsSound : Prop :=
  State.reset.memoryCanonical ∧ State.reset.referenceAgrees ∧ State.reset.queuesAgree ∧ State.reset.linksAgree ∧
    State.reset.countsAgree ∧ State.reset.jobsAgree ∧ State.reset.inBounds

/-! ### What every step keeps -/

/-- Sample Memory keeps its canonical form (R95; the form is entry 17's). -/
def Obligations.StepKeepsMemoryCanonical : Prop :=
  ∀ s t, s.memoryCanonical → step s = .next t → t.memoryCanonical

/-- REFLOST is set whenever the reference is not LOCKED, line time is COARSE exactly in LOCKED, the count stays at or below 200,000, and
between steps the accumulator is below 250,000,000 (R4, R5, R8, R11). The latest ends of the absence detector and of the RC divider's unit lie
within 408 ns and 1.02 / 1024 s of the present coarse period, and the present instant never lies beyond the first, nor outside LOCKED beyond
the second (R5, R6; entries 2 and 8). -/
def Obligations.StepKeepsReference : Prop :=
 ∀ s t, s.referenceAgrees → step s = .next t → t.referenceAgrees

/-- Queues hold at most 8 records, completions wait only behind a full queue, at most four service records wait and on P0 alone, ATTN
shows the queue and REFLOST (R148, R151, R152, R155, R156). -/
def Obligations.StepKeepsQueues : Prop :=
 ∀ s t, s.queuesAgree → step s = .next t → t.queuesAgree

/-- Lanes, Crosspoint, channel activities, hold, check and reference keep agreeing, and a running check neither misses an edge nor runs
past its last one, its scored count following its edges (R18, R24, R74, R80, R81, R160, R162, R164, R165, R168). -/
def Obligations.StepKeepsLinks : Prop :=
 ∀ s t, s.linksAgree → step s = .next t → t.linksAgree

/-- Held counts and reference counts keep counting the table, and every set a job names stays FROZEN (R47, R133, R134). -/
def Obligations.StepKeepsCounts : Prop :=
 ∀ s t, s.countsAgree → step s = .next t → t.countsAgree

/-- The job table keeps agreeing with the channels, the Reduction Unit and the page hold map, and every job's fields fit its state (R37,
R81, R97, R110, R132). -/
def Obligations.StepKeepsJobs : Prop :=
 ∀ s t, s.linksAgree → s.jobsAgree → step s = .next t → t.jobsAgree

/-- With windows, jobs and acquisitions inside Sample Memory every step answers a next state, never a fault or a refusal, and they
stay inside (R43, R86, R101). -/
def Obligations.StepAnswersInBounds : Prop :=
 ∀ s, s.inBounds → ∃ t, step s = .next t ∧ t.inBounds

/-! ### Frames -/

/-- The framing events of a port: select asserted with and without frames being taken, select released, and the end of a response
(R172, R174, R183, R184). That a select already asserted, and a last response byte outside ANSWERING, change nothing is entry 4, and that
the response is empty in TRAILING entry 27: the model's. -/
def Obligations.PortFraming : Prop :=
  ∀ (s : State) (p : PortNo),
    (s.ports[p].selected = true → exec (.selectAsserted p) s = .next s) ∧
      (s.ports[p].selected = false → s.resetPin = false → s.settled = true →
        exec (.selectAsserted p) s = .next { s with ports := s.ports.set p ⟨.receiving, [], [], true⟩ }) ∧
      (s.ports[p].selected = false → (s.resetPin = true ∨ s.settled = false) →
        exec (.selectAsserted p) s = .next { s with ports := s.ports.set p { s.ports[p] with selected := true } }) ∧
      exec (.selectReleased p) s = .next { s with ports := s.ports.set p ⟨.waiting, [], [], false⟩ } ∧
      (s.ports[p].framing = .answering → exec (.lastResponseByteClockedOut p) s =
        .next { s with ports := s.ports.set p { s.ports[p] with framing := .trailing, response := [] } }) ∧
      (s.ports[p].framing ≠ .answering → exec (.lastResponseByteClockedOut p) s = .next s)

/-- The bytes of a request, whatever it asks. Outside RECEIVING they are ignored; in RECEIVING the bytes of an unfinished frame are kept,
their number being the byte count, and nothing else changes; bytes after the last of a frame have no effect (R172, R173). Bytes that do
not go on from those received cannot occur and change nothing (entries 4 and 6). -/
def Obligations.FrameReception : Prop :=
  ∀ (s : State) (p : PortNo) (bytes : List Byte),
    (s.ports[p].framing ≠ .receiving → ofEveryRequest fun _ request => exec (request p bytes) s = .next s) ∧
    (ofEveryRequest fun code request =>
      (¬ s.ports[p].received <+: code :: bytes → exec (request p bytes) s = .next s) ∧
      (s.hears p (code :: bytes) → (bytes = [] ∨ ∃ n rest, bytes = n :: rest ∧ n.toNat ≤ 60 ∧ rest.length < n.toNat) →
        exec (request p bytes) s =
          .next { s with ports := s.ports.set p { s.ports[p] with received := code :: bytes } }) ∧
      ∀ payload : List Byte, payload.length ≤ 60 → s.hears p (code :: framed payload) →
        exec (request p (framed payload ++ bytes)) s = exec (request p (framed payload)) s)

/-- The four tests of a request frame in their order, each answered with an empty payload and no other change: a length byte above 60 is
MALFORMED at byte 1, a code outside the table UNKNOWN_REQUEST, a supervisor-only code on a station port NOT_PERMITTED, and a length
other than the code's MALFORMED, SUBMIT's being 15 + 2 × the band count in payload byte 14 (R173). -/
def Obligations.FrameTests : Prop :=
  (∀ (s : State) (p : PortNo) (n : Byte) (rest : List Byte), 60 < n.toNat →
     ofEveryRequest fun code request => s.hears p (code :: n :: rest) →
       exec (request p (n :: rest)) s =
         .next { s with ports := s.ports.set p ⟨.answering, [code, n], [0x03, 0x00], s.ports[p].selected⟩ }) ∧
  (∀ (s : State) (p : PortNo) (payload : List Byte), payload.length ≤ 60 →
     (∀ code : UnknownCode, s.refuses (fun p bytes => .unknownRequest p code bytes) code.code p payload .unknownRequest) ∧
     (∀ r ∈ fixedRequests, 0x20 ≤ r.1.toNat → p ≠ 0 → s.refuses r.2.2 r.1 p payload .notPermitted) ∧
     (∀ r ∈ fixedRequests, (r.1.toNat < 0x20 ∨ p = 0) → payload.length ≠ r.2.1 → s.refuses r.2.2 r.1 p payload .malformed) ∧
     (payload.length < 15 ∨ payload.length ≠ 15 + 2 * (payload.getD 14 0).toNat → s.refuses .submit 0x01 p payload .malformed))

/-- The response header and pad byte: the status, the payload in units of two bytes, the payload, one byte of 0 when it is odd. Fields of
several bytes are little-endian: byte i of a field of value v is v / 256^i mod 256. A handle's byte carries the slot in bits 0 to 3 and
the generation in bits 4 to 7 (R175). Each status has the code of section 11.2. -/
def Obligations.ResponseLayout : Prop :=
  ((∀ (status : Status) (body : List Byte), body.length ≤ 510 →
     ∃ units pad, responseBytes status body = status.code :: units :: (body ++ pad) ∧
       2 * units.toNat = body.length + pad.length ∧ pad.length ≤ 1 ∧ ∀ b ∈ pad, b = 0) ∧
     ∀ k v, (leBytes k v).length = k ∧ leValue (leBytes k v) = v % 256 ^ k ∧
       ∀ i < k, ((leBytes k v).getD i 0).toNat = v / 256 ^ i % 256) ∧
  (∀ h : Handle, h.code.toNat = h.slot.val + 16 * h.gen.toNat ∧ handleOf h.code = h) ∧
  ∀ status : Status, status.code.toNat =
    match status with
    | .success => 0x00 | .empty => 0x01 | .unknownRequest => 0x02 | .malformed => 0x03 | .notPermitted => 0x04 | .badValue => 0x05
    | .badLane => 0x06 | .laneNotOwned => 0x07 | .badRecipe => 0x08 | .windowAbsent => 0x0A | .windowShort => 0x0B
    | .pagesBusy => 0x0C | .limitsOpen => 0x0D | .quota => 0x0E | .tableFull => 0x0F | .unknownJob => 0x10 | .tooLate => 0x11
    | .laneBusy => 0x12 | .fillRunning => 0x13 | .outOfWindow => 0x14 | .limitsFrozen => 0x15 | .limitsEmpty => 0x16
    | .limitsInUse => 0x17 | .nothingHeld => 0x18 | .checkRunning => 0x19 | .notHeld => 0x1A | .refNotLocked => 0x1B
    | .badWindow => 0x1C

/-! ### Requests that read -/

/-- Every read request leaves all but its port's framing as it stands, whatever it answers (R15, R29, R58, R105, R140, R170, R180). -/
def Obligations.ReadsChangeNothing : Prop :=
  ∀ (s t : State) (p : PortNo) (bytes : List Byte), ∀ r ∈ readRequests, exec (r p bytes) s = .next t →
    ∃ framing received response, t = { s with ports := s.ports.set p ⟨framing, received, response, s.ports[p].selected⟩ }

/-- READ LANE: BAD_LANE above 31, else the five fields of the lane (R29, R177). READ CHANNEL: BAD_VALUE above 3, else service state,
activity, Crosspoint entry and error counter (R170, R179). -/
def Obligations.ReadLaneAndChannel : Prop :=
  ∀ (s : State) (p : PortNo) (b : Byte),
    (31 < b.toNat → s.refuses .readLane 0x07 p [b] .badLane) ∧
    (∀ k : LaneNo, b.toNat = k.val →
      s.takes .readLane 0x07 p [b] s .success
        [match s.lanes[k].config.state with | .offline => 0 | .online => 1,
          match s.lanes[k].config.owner with | .any => 0 | .p1 => 1 | .p2 => 2 | .p3 => 3,
          match s.lanes[k].config.edge with | .rise => 0 | .fall => 1,
          BitVec.ofNat 8 s.lanes[k].config.filter.val,
          match s.lanes[k].connected with | none => 0xFF | some c => BitVec.ofNat 8 c.val]) ∧
    (3 < b.toNat → s.refuses .readChannel 0x09 p [b] .badValue) ∧
    ∀ c : ChannelNo, b.toNat = c.val →
      s.takes .readChannel 0x09 p [b] s .success
        [match s.service[c] with | .inService => 0 | .outOfService => 1 | .suspect => 2,
          match s.chans[c].activity with | .idle => 0 | .acquiring => 1 | .checking => 2,
          match s.xpoint[c] with | .none => 0xFF | .lane k => BitVec.ofNat 8 k.val | .cal => 0x20,
          BitVec.ofNat 8 s.verif.errors[c], BitVec.ofNat 8 (s.verif.errors[c] / 256)]

/-- READ STATUS: the thirteen bytes of the requesting port (R180). READ REFERENCE: state, REFLOST, line time, time source, qualification
count, FIRST and LATEST (R15, R179). -/
def Obligations.ReadStatusAndReference : Prop :=
  ∀ (s : State) (p : PortNo),
    s.takes .readStatus 0x05 p [] s .success
      [BitVec.ofNat 8 s.queues[p].queue.length, BitVec.ofNat 8 s.held[p], BitVec.ofNat 8 s.profiles[p].quota,
        BitVec.ofNat 8 s.profiles[p].ceiling, BitVec.ofNat 8 s.floor,
        match s.hold with | .running => 0 | .pending => 1 | .active => 2,
        match s.ref.state with | .absent => 0 | .acquiring => 1 | .locked => 2,
        if s.ref.reflost then 1 else 0, if s.fill.running then 1 else 0,
        if s.fill.running then BitVec.ofNat 8 s.fill.next else 0xFF, if s.verif.running then 1 else 0,
        BitVec.ofNat 8 s.verif.scored, BitVec.ofNat 8 (s.verif.scored / 256)] ∧
    let slot (e : Option RefEvent) : List Byte :=
      match e with
      | none => [0xFF, 0, 0, 0, 0, 0, 0, 0]
      | some e => ([match e.kind with | .loss => 0 | .lock => 1] : List Byte) ++ leBytes 5 e.lineTime.toNat ++
          [BitVec.ofNat 8 e.aborted, if e.checkEnded then 1 else 0];
    s.takes .readReference 0x0A p [] s .success
      (([match s.ref.state with | .absent => 0 | .acquiring => 1 | .locked => 2, if s.ref.reflost then 1 else 0] : List Byte) ++
        leBytes 5 s.ref.lineTime.toNat ++ ([match s.ref.source with | .coarse => 0 | .rc => 1] : List Byte) ++
        leBytes 3 s.ref.qualified ++ slot s.ref.first ++ slot s.ref.latest)

/-- READ LIMITS: BAD_VALUE above 7, else 100 bytes: state, reference count, a presence word with bit i for field i, and the fields,
eight bytes each, 0 when absent (R140, R179). -/
def Obligations.ReadLimitsAnswer : Prop :=
  ∀ (s : State) (p : PortNo) (b : Byte),
    (7 < b.toNat → s.refuses .readLimits 0x08 p [b] .badValue) ∧
      ∀ x : SetNo, b.toNat = x.val → ∃ presence : BitVec 16,
        (∀ i : Fin 16, presence.getLsbD i.val = if h : i.val < 12 then s.limits[x].fields[i.val].isSome else false) ∧
          s.takes .readLimits 0x08 p [b] s .success
            (([match s.limits[x].state with | .empty => 0 | .opened => 1 | .frozen => 2,
              BitVec.ofNat 8 s.limits[x].references] : List Byte) ++ leBytes 2 presence.toNat ++
              (List.finRange 12).flatMap fun i => leBytes 8 (s.limits[x].fields[i].getD 0))

/-- READ JOB: UNKNOWN_JOB for a handle that names no job, NOT_PERMITTED for another port's job on a station port, else the thirty
bytes of the job (R38, R58, R179). -/
def Obligations.ReadJobAnswer : Prop :=
  ∀ (s : State) (p : PortNo) (h : Handle),
    ((s.jobAt h.slot = none ∨ s.table[h.slot].gen ≠ h.gen) → s.refuses .readJob 0x03 p [h.code] .unknownJob) ∧
    ∀ j, s.jobAt h.slot = some j → s.table[h.slot].gen = h.gen →
      (p ≠ 0 → j.port ≠ p → s.refuses .readJob 0x03 p [h.code] .notPermitted) ∧
      ((p = 0 ∨ j.port = p) → s.takes .readJob 0x03 p [h.code] s .success
        ([BitVec.ofNat 8 j.port.val] ++ leBytes 2 j.tag.toNat ++ leBytes 4 j.sequence.toNat ++
          [BitVec.ofNat 8 j.lane.val] ++ leBytes 4 j.pnom ++ leBytes 2 j.dRequested ++ leBytes 2 j.dEffective ++
          leBytes 2 j.n ++ [BitVec.ofNat 8 j.bands.length, BitVec.ofNat 8 j.prioRequested,
            BitVec.ofNat 8 j.prioEffective,
            match j.state with | .queued => 0 | .acquiring => 1 | .waitReduce => 2 | .reducing => 3 | .complete => 4,
            match j.channel with | none => 0xFF | some c => BitVec.ofNat 8 c.val] ++
          leBytes 2 j.captured ++ leBytes 2 j.runts ++
          ([BitVec.ofNat 8 ((if j.clamped then 1 else 0) + (if j.raised then 2 else 0) + if j.bandShort then 4 else 0),
            match j.outcome with
            | none => 0xFF | some .done => 0 | some .cancelled => 1 | some .refLost => 2 | some .noEdges => 3
            | some .laneOffline => 4 | some .stopped => 5,
            match j.verdict with | none => 0xFF | some v => v.bin.code] : List Byte)))

/-- READ SAMPLES: its four refusals in their order, else the words of the window from the offset on, six bytes each, for windows
that lie within the memory (R101, R105, R106, R175). -/
def Obligations.ReadSamplesAnswer : Prop :=
  ∀ (s : State) (p : PortNo) (w : Byte) (offset : Nat) (count : Byte), offset < 65536 →
    let payload : List Byte := w :: leBytes 2 offset ++ [count];
    let refused (status : Status) := s.refuses .readSamples 0x06 p payload status;
    ((count = 0 ∨ 64 < count.toNat) → refused .badValue) ∧
    (1 ≤ count.toNat → count.toNat ≤ 64 →
      (7 < w.toNat → refused .windowAbsent) ∧
      ∀ x : WindowNo, w.toNat = x.val →
        let d := s.windows[p][x];
        let word := d.base * 1024 + offset;
        (d.key = .absent → refused .windowAbsent) ∧
        (d.key ≠ .absent → d.length * 1024 < offset + count.toNat → refused .outOfWindow) ∧
        (d.key ≠ .absent → offset + count.toNat ≤ d.length * 1024 → d.base + d.length ≤ 64 →
          ((∃ q : PageNo, word / 1024 ≤ q.val ∧ q.val ≤ (word + count.toNat - 1) / 1024 ∧ s.pages[q].isSome) →
            refused .pagesBusy) ∧
          ((∀ q : PageNo, word / 1024 ≤ q.val → q.val ≤ (word + count.toNat - 1) / 1024 → s.pages[q] = none) →
            s.takes .readSamples 0x06 p payload s .success
              ((List.range count.toNat).flatMap fun j => leBytes 6 (s.mem.read (word + j)).toNat))))

/-! ### The Reference Monitor -/

/-- A REFIN rising edge in each reference state, and what comes before it (entry 2): past the absence detector's latest end the expiry there
(R1, R6, R7). An absence expiry: nothing in ABSENT, ABSENT with no event in ACQUIRING (R6, R10). It comes at the present instant, but
not before 392 ns after the detector's start nor after 408 ns, and in a coarse period that ends before the 392 ns not at all (R6, entries 4
and 8); an edge taken first restarts the detector and the expiry does not happen (R6). That the count waits at 200,000 for REFERENCE_LOCKED
is entry 5, that the detector starts again entry 10, its times in ticks of a nominal coarse period entry 8, the present instant entry 2. -/
def Obligations.ReferenceEdgesAndExpiries : Prop :=
  (∀ s : State,
     let started : RefMonitor := { s.ref with absenceEnd := 6684672 + s.ref.fine.toNat };
     (s.quietBefore s.ref.fine.toNat →
       (s.ref.state = .absent → exec .refinRisingEdge s = .next { s with
         ref := { started with state := .acquiring, qualified := 1, multiplier := .slewing } }) ∧
       (s.ref.state = .acquiring → exec .refinRisingEdge s = .next { s with
         ref := { started with qualified := min 200000 (s.ref.qualified + 1) } }) ∧
       (s.ref.state = .locked → exec .refinRisingEdge s = .next { s with ref := started })) ∧
     (∀ u, s.passTo s.ref.fine = .next u → u.ref.fine = s.ref.fine → u.quietBefore s.ref.fine.toNat →
       exec .refinRisingEdge s = exec .refinRisingEdge u) ∧
     ∀ t, exec .refinRisingEdge s = .next t → exec .absenceExpiry t = .next t) ∧
  (∀ s : State,
     let place : Nat := min (max s.ref.fine.toNat (s.ref.absenceEnd - 262144)) s.ref.absenceEnd;
     let started : RefMonitor := { (s.upTo (BitVec.ofNat 16 place)).ref with absenceEnd := 6684672 + place };
     (65536 ≤ s.ref.absenceEnd - 262144 → exec .absenceExpiry s = .next s) ∧
     (s.ref.absenceEnd - 262144 < 65536 → s.quietBefore place →
       (s.ref.state = .acquiring → exec .absenceExpiry s = .next { s with
         ref := { started with state := .absent, multiplier := .held } }) ∧
       (s.ref.state = .absent → exec .absenceExpiry s = .next { s with ref := started })))

/-- REFERENCE_LOCKED at 200,000 edges in ACQUIRING: LOCKED, COARSE, accumulator 0, the RC divider's part of a unit dropped, a LOCK event in LATEST and, if FIRST is empty, in
FIRST; with REFLOST set nothing is granted (R5, R8, R13). Elsewhere it changes nothing (entry 4). -/
def Obligations.ReferenceLocked : Prop :=
  ∀ s : State,
    (s.ref.state = .acquiring → 200000 ≤ s.ref.qualified →
      (∃ t, exec .referenceLocked s = .next t ∧ t.ref = { s.ref with
        state := .locked, multiplier := .tracking, source := .coarse, accumulator := 0, rcEnd := 16320000000
        first := if s.ref.first = none then some ⟨.lock, s.ref.lineTime, 0, false⟩ else s.ref.first
        latest := some ⟨.lock, s.ref.lineTime, 0, false⟩ }) ∧
      (s.ref.reflost = true → ∃ r, exec .referenceLocked s = .next { s with ref := r })) ∧
    ((s.ref.state ≠ .acquiring ∨ s.ref.qualified < 200000) → exec .referenceLocked s = .next s)

/-- ABSENCE_EXPIRY in LOCKED, at its place 392 to 408 ns after the detector's start (R6, entry 8) and after all that is due before it (entry
2), is a loss of reference: ABSENT, REFLOST, RC with the divider's phase restarted, a LOSS event with the number of ACQUIRING channels and whether a check ran; P0's ATTN is asserted, a pending hold is active, nothing is granted, and
the blocks that do not depend on lock keep their state (R1, R5, R9, R13, R76, R156). Each ACQUIRING channel stops with its connection cleared;
a running check ends with the selected channels IDLE without entry, and a CHECK record REF_LOST in P0's queue or waiting; every other channel
and lane stays (R90, R168). The ACQUIRING jobs end REF_LOST with their counts as they stood, oldest first, and every other slot stays (R9, R40,
R49, R50, R90). That the accumulator is 0 is entry 9, that the detector starts again entry 10. -/
def Obligations.LossOfReference : Prop :=
  ∀ s : State,
    let place : Nat := min (max s.ref.fine.toNat (s.ref.absenceEnd - 262144)) s.ref.absenceEnd;
    s.ref.absenceEnd - 262144 < 65536 →
    (∀ u, s.passTo (BitVec.ofNat 16 place) = .next u → u.ref.absenceEnd = s.ref.absenceEnd → u.quietBefore place →
      exec .absenceExpiry s = exec .absenceExpiry u) ∧
    (s.ref.state = .locked → s.quietBefore place → ∃ t, exec .absenceExpiry s = .next t ∧
    let loss : RefEvent := ⟨.loss, s.ref.lineTime,
      (List.finRange 4).countP fun c => decide (s.chans[c].activity = .acquiring), s.verif.running⟩;
    t.ref = { (s.upTo (BitVec.ofNat 16 place)).ref with
      state := .absent, reflost := true, source := .rc, multiplier := .held, accumulator := 0
      absenceEnd := 6684672 + place
      rcEnd := 16320000000 + (s.upTo (BitVec.ofNat 16 place)).ref.fine.toNat
      latest := some loss
      first := if s.ref.first = none then some loss else s.ref.first } ∧
    (∀ c : ChannelNo, t.chans[c].activity ≠ .acquiring) ∧ t.verif = { s.verif with running := false } ∧
    t.queues[(0 : PortNo)].attn = true ∧ (s.hold = .pending → t.hold = .active) ∧ (s.hold ≠ .pending → t.hold = s.hold) ∧
    { t with ref := s.ref, lanes := s.lanes, xpoint := s.xpoint, table := s.table, held := s.held, hold := s.hold, chans := s.chans,
             pages := s.pages, limits := s.limits, queues := s.queues, verif := s.verif } = s ∧
    (s.verif.running = true →
      (∀ c : ChannelNo, s.verif.mask.getLsbD c.val = true → t.chans[c].activity = .idle ∧ t.xpoint[c] = .none) ∧
      let report : ServiceReport := .check .refLost s.verif.mask s.verif.e s.verif.tolerance s.verif.threshold s.verif.scored
        s.verif.errors s.service;
      .service report s.ref.lineTime true false ∈ t.queues[(0 : PortNo)].queue ∨
        ∃ older, .service report older ∈ t.queues[(0 : PortNo)].waiting) ∧
    (∀ c : ChannelNo, s.chans[c].activity ≠ .acquiring → (s.verif.running = true → s.verif.mask.getLsbD c.val = false) →
      t.chans[c] = s.chans[c] ∧ t.xpoint[c] = s.xpoint[c]) ∧
    (∀ k : LaneNo, (∀ c : ChannelNo, s.chans[c].activity = .acquiring → s.xpoint[c] ≠ .lane k) → t.lanes[k] = s.lanes[k]) ∧
    (s.linksAgree → s.jobsAgree →
      endedTogether s t (fun j => decide (j.state = .acquiring)) .refLost true ∧
      (∀ c : ChannelNo, s.chans[c].activity = .checking → t.chans[c] = { s.chans[c] with activity := .idle }) ∧
      ∀ (c : ChannelNo) (k : LaneNo), s.chans[c].activity = .acquiring → s.xpoint[c] = .lane k →
        t.chans[c] = { s.chans[c] with activity := .idle, job := none, timer := none } ∧ t.xpoint[c] = .none ∧
        t.lanes[k] = { s.lanes[k] with connected := none, qualifier := none }))

/-- LINE_TIME_ADVANCE in LOCKED with the accumulator at 250,000,000 or more: that is subtracted and line time rises by one modulo 2⁴⁰;
the clock takes it right at the coarse edge that brings the accumulator there (R4; as an event of its own entry 3). LINE_TIME_RC_ADVANCE
outside LOCKED: line time rises by one and the RC divider begins its next unit, 0.98 to 1.02 / 1024 s after it began the last one (R5, entry
8), what is due before coming first (entry 2). Each in any other case changes nothing (entry 4). -/
def Obligations.LineTimeAdvances : Prop :=
  ∀ s : State,
    (s.ref.state = .locked → 250000000 ≤ s.ref.accumulator →
      exec .lineTimeAdvance s = .next { s with
        ref := { s.ref with accumulator := s.ref.accumulator - 250000000, lineTime := s.ref.lineTime + 1 } } ∧
      s.ref.dueAtEdge.head? = some (0, .lineTime)) ∧
    (s.ref.state = .locked → s.ref.accumulator < 250000000 → exec .lineTimeAdvance s = .next s) ∧
    (s.ref.state = .locked → exec .lineTimeRcAdvance s = .next s) ∧
    (s.ref.state ≠ .locked → exec .lineTimeAdvance s = .next s ∧
      let place : Nat := min (max s.ref.fine.toNat (s.ref.rcEnd - 640000000)) s.ref.rcEnd;
      (65536 ≤ s.ref.rcEnd - 640000000 → exec .lineTimeRcAdvance s = .next s) ∧
      (s.ref.rcEnd - 640000000 < 65536 →
        (∀ u, s.passTo (BitVec.ofNat 16 place) = .next u → u.ref.state ≠ .locked → u.ref.rcEnd = s.ref.rcEnd → u.quietBefore place →
          exec .lineTimeRcAdvance s = exec .lineTimeRcAdvance u) ∧
        (s.quietBefore place → exec .lineTimeRcAdvance s = .next { s with
          ref := { (s.upTo (BitVec.ofNat 16 place)).ref with lineTime := s.ref.lineTime + 1, rcEnd := 16320000000 + place } })))

/-- CLEAR REFLOST on P0 by the table of R12: refused REF_NOT_LOCKED outside LOCKED; no effect on a clear flag; else the flag and, with
an empty queue, P0's ATTN clear, and the arbiter decides. CLEAR REF EVENTS on P0 empties both event slots in every reference state and
changes nothing else (R14). -/
def Obligations.ClearReflostAndEvents : Prop :=
  ∀ s : State,
    (s.ref.state ≠ .locked → s.refuses .clearReflost 0x2E 0 [] .refNotLocked) ∧
    (s.ref.state = .locked → s.ref.reflost = false → s.takes .clearReflost 0x2E 0 [] s .success []) ∧
    (s.ref.state = .locked → s.ref.reflost = true →
      s.takes .clearReflost 0x2E 0 [] ({ s with
        ref := { s.ref with reflost := false }
        queues := s.queues.set 0
          { s.queues[0] with attn := decide (s.queues[0].queue ≠ []) } } : State).arbitrate .success []) ∧
    s.takes .clearRefEvents 0x2F 0 [] { s with ref := { s.ref with first := none, latest := none } } .success []

/-! ### Lanes and the fill -/

/-- WRITE LANE on P0: BAD_LANE, FILL_RUNNING and LANE_BUSY in their order; else the four fields are replaced. With STATE and OWNER kept
nothing else follows; with a change of either that takes no lane from ONLINE to OFFLINE the arbiter decides (R27). The codes are those of
R175. -/
def Obligations.WriteLane : Prop :=
  ∀ (s : State) (k : LaneNo) (new : LaneConfig) (a b c d e : Byte),
    let payload : List Byte :=
      [BitVec.ofNat 8 k.val, new.state.code, new.owner.code, new.edge.code, BitVec.ofNat 8 new.filter.val];
    let old := s.lanes[k].config;
    let written : State := { s with lanes := s.lanes.set k { s.lanes[k] with config := new } };
    ((31 < a.toNat ∨ 1 < b.toNat ∨ 3 < c.toNat ∨ 1 < d.toNat ∨ 15 < e.toNat) →
      s.refuses .writeLane 0x20 0 [a, b, c, d, e] .badLane) ∧
    (s.fill.running = true → s.refuses .writeLane 0x20 0 payload .fillRunning) ∧
    (s.fill.running = false → s.lanes[k].connected ≠ none → s.refuses .writeLane 0x20 0 payload .laneBusy) ∧
    (s.fill.running = false → s.lanes[k].connected = none →
      (old.state = new.state → old.owner = new.owner → s.takes .writeLane 0x20 0 payload written .success []) ∧
      ((old.state ≠ new.state ∨ old.owner ≠ new.owner) → (old.state = .offline ∨ new.state = .online) →
        s.takes .writeLane 0x20 0 payload written.arbitrate .success []))

/-- A WRITE LANE or a fill's visit that takes lane `k` from ONLINE to OFFLINE ends every job QUEUED on it LANE_OFFLINE, oldest first, with
its pages released and, where its record enters, its slot, held count and reference given up; it ends no job of another lane or of a later
state, and changes no channel, lane but `k`, or word of memory; then the arbiter decides (R27, R28, R31, R40, R49, R50, R99). -/
def Obligations.LaneOffline : Prop :=
  ∀ (s : State) (k : LaneNo) (owner : Owner) (edge : Edge) (filter : Fin 16),
    s.lanes[k].connected = none → s.lanes[k].config.state = .online →
    let swept (t : State) : Prop :=
      t.lanes = s.lanes.set k { s.lanes[k] with config := ⟨.offline, owner, edge, filter⟩ } ∧
      endedTogether s t (fun j => decide (j.lane = k ∧ j.state = .queued)) .laneOffline (decide (s.ref.source = .rc)) ∧
      t.chans = s.chans ∧ t.xpoint = s.xpoint ∧ t.mem = s.mem ∧ t.fifo = s.fifo ∧ t.current = s.current ∧
      t.windows = s.windows ∧ t.ref = s.ref ∧ t.verif = s.verif ∧ t.service = s.service ∧ t.seqCounter = s.seqCounter ∧
      t.hold = s.hold ∧ t.floor = s.floor ∧ t.profiles = s.profiles ∧ t.ports = s.ports;
    (s.fill.running = false →
      let payload := [BitVec.ofNat 8 k.val, 0, owner.code, edge.code, BitVec.ofNat 8 filter.val];
      ∃ t, s.takes .writeLane 0x20 0 payload t.arbitrate .success [] ∧ swept t ∧ t.fill = s.fill) ∧
    (s.fill.running = true → s.fill.next = k.val → s.fill.next < s.fill.last → s.fill.template = ⟨.offline, owner, edge, filter⟩ →
      ∃ t, exec .fillVisit s = .next t.arbitrate ∧ swept t ∧
        t.fill = { s.fill with next := s.fill.next + 1, written := s.fill.written + 1 })

/-- FILL LANES on P0: BAD_LANE and FILL_RUNNING in their order; else the fill is RUNNING from first with both counts 0 and no lane is
rewritten (R30). STOP FILL on P0 ends a running fill STOPPED and leaves an idle one (R33). The visit of the last lane does all that a
visit before the last would do, with what follows from the rewrite, and then ends the fill DONE (R31, R34). Each end makes one FILL record
with the range and counts, offered to P0 (R34, R150, R152); that it comes after the LANE_OFFLINE records of the same visit is entry 28. -/
def Obligations.FillLanesAndEnds : Prop :=
  (∀ (s : State) (first last : Byte) (new : LaneConfig),
     let payload := [first, last, new.state.code, new.owner.code, new.edge.code, BitVec.ofNat 8 new.filter.val];
     (∀ b c d e : Byte, (31 < last.toNat ∨ last.toNat < first.toNat ∨ 1 < b.toNat ∨ 3 < c.toNat ∨ 1 < d.toNat ∨ 15 < e.toNat) →
       s.refuses .fillLanes 0x21 0 [first, last, b, c, d, e] .badLane) ∧
     (last.toNat ≤ 31 → first.toNat ≤ last.toNat →
       (s.fill.running = true → s.refuses .fillLanes 0x21 0 payload .fillRunning) ∧
       (s.fill.running = false → s.takes .fillLanes 0x21 0 payload
         { s with fill := ⟨true, new, first.toNat, last.toNat, first.toNat, 0, 0⟩ } .success []))) ∧
  (∀ s : State,
     let done (u : State) (o : EndOutcome) : State :=
       ({ u with fill := { u.fill with running := false } } : State).reported
         (.fill o u.fill.first u.fill.last u.fill.written u.fill.skipped);
     (s.fill.running = false → s.takes .stopFill 0x22 0 [] s .success []) ∧
     (s.fill.running = true → s.takes .stopFill 0x22 0 [] (done s .stopped) .success []) ∧
     (∀ k : LaneNo, s.fill.running = true → s.fill.next = k.val → s.fill.next = s.fill.last →
       ∃ t, exec .fillVisit { s with fill := { s.fill with last := s.fill.last + 1 } } = .next t ∧
         exec .fillVisit s = .next (done { t with fill := { t.fill with last := s.fill.last } } .done)))

/-- A visit of a running fill, at a lane before the last: a connected lane is skipped; an unconnected one takes the template and counts
as written, with no more to it when STATE and OWNER stay and a decision of the arbiter when either changes without going from ONLINE to
OFFLINE. With no fill running a visit changes nothing (R31; the last clause is entry 4). -/
def Obligations.FillVisit : Prop :=
  ∀ (s : State) (k : LaneNo),
    let old := s.lanes[k].config;
    (s.fill.running = false → exec .fillVisit s = .next s) ∧
    (s.fill.running = true → s.fill.next = k.val → s.fill.next < s.fill.last →
      let visited : State := { s with
        fill := { s.fill with next := s.fill.next + 1, written := s.fill.written + 1 }
        lanes := s.lanes.set k { s.lanes[k] with config := s.fill.template } };
      (s.lanes[k].connected ≠ none → exec .fillVisit s =
        .next { s with fill := { s.fill with next := s.fill.next + 1, skipped := s.fill.skipped + 1 } }) ∧
      (s.lanes[k].connected = none → old.state = s.fill.template.state → old.owner = s.fill.template.owner →
        exec .fillVisit s = .next visited) ∧
      (s.lanes[k].connected = none → (old.state ≠ s.fill.template.state ∨ old.owner ≠ s.fill.template.owner) →
        (old.state = .offline ∨ s.fill.template.state = .online) → exec .fillVisit s = .next visited.arbitrate))

/-- A transition of an unconnected lane changes its level, nothing else. With FILTER 0 it also emits an output edge at once, kept when its
direction is the selected one, and counts no runt. With a filter it starts a new phase, and ends one: a phase shorter than the width leaves
the output where it stands, emits nothing and counts one runt, up to 65,535, for the job of the lane's channel; a phase of the full width or
more is no runt, its level is the output's, and if that is a change to the selected level an edge lagging by the width has been emitted; the
phase in progress at connection is not measured (R20, R21, R22). The transition comes at a place in the present coarse period, one before a
place already reached changing nothing (entries 2 and 4), and all that is due before it coming first, so that a transition after the end of
the acquisition meets a lane no longer connected and counts no runt (R22, R87, R89, R90; entry 2). Kept edges are entry 15. -/
def Obligations.LaneInputTransition : Prop :=
  ∀ (s : State) (k : LaneNo) (fine : Fine),
    let now : Timestamp := s.ref.counter ++ fine;
    let l := s.lanes[k];
    let reached : State := { s with ref := { s.ref with fine := fine } };
    let moved (q : Qualifier) : State := { reached with lanes := s.lanes.set k { l with level := !l.level, qualifier := some q } };
    let answers (t : State) : Prop := exec (.laneInputTransition k fine) s = .next t;
    let selects (q : Qualifier) (level : Bool) : Prop := level = true ↔ q.edge = .rise;
    (fine < s.ref.fine → answers s) ∧
    (s.ref.fine ≤ fine → ∀ u, s.passTo fine = .next u → u.ref.fine = fine → u.quietBefore fine.toNat →
      exec (.laneInputTransition k fine) s = exec (.laneInputTransition k fine) u) ∧
    (s.ref.fine ≤ fine → s.quietBefore fine.toNat →
      (l.qualifier = none → answers { reached with lanes := s.lanes.set k { l with level := !l.level } }) ∧
      ∀ q, l.qualifier = some q →
        (q.filter = 0 → q.output = l.level → answers (moved { q with
          output := !l.level
          phaseStart := none
          emitted := if selects q (!l.level) then q.emitted ++ [now] else q.emitted })) ∧
        (q.filter ≠ 0 →
          (q.phaseStart = none → answers (moved { q with phaseStart := some now })) ∧
          ∀ start, q.phaseStart = some start →
            (q.filter.val * 4096 ≤ (now - start).toNat → answers (moved { q with
              output := l.level
              phaseStart := some now
              emitted := if q.output ≠ l.level ∧ selects q l.level
                then q.emitted ++ [start + BitVec.ofNat 48 (q.filter.val * 4096)] else q.emitted })) ∧
            ∀ (c : ChannelNo) (h : Handle) (j : Job), (now - start).toNat < q.filter.val * 4096 →
              l.connected = some c → s.chans[c].job = some h → s.jobAt h.slot = some j →
              answers { moved { q with phaseStart := some now } with
                table := s.table.set h.slot ⟨s.table[h.slot].gen, some { j with runts := min 65535 (j.runts + 1) }⟩ }))

/-! ### Submitting and cancelling -/

/-- A SUBMIT is refused with the first of R42's nine codes whose condition holds, changing nothing else; when none holds it is
accepted: the job of R43 to R46 is QUEUED in the lowest free slot with the next sequence number, its pages, its set's reference and
a held count, and the arbiter decides. The response is the nine bytes of R176: handle, SEQUENCE, D EFFECTIVE, PRIORITY EFFECTIVE, flags.
DESIGN CHOICE (entry 32): it carries no TAG, where R41 says that TAG is returned in the response and R46 and R176 list the response without
it. -/
def Obligations.Submit : Prop :=
  ∀ (s : State) (p : PortNo) (payload : List Byte), payload.length ≤ 60 → 15 ≤ payload.length →
    payload.length = 15 + 2 * (payload.getD 14 0).toNat →
    let f := submitFields payload;
    (∀ status, firstCode (s.submitConditions p f) = some status → s.refuses .submit 0x01 p payload status) ∧
    (firstCode (s.submitConditions p f) = none →
      ∃ (k : LaneNo) (w : WindowNo) (i : SlotNo), k.val = f.lane ∧ w.val = f.window ∧ s.jobAt i = none ∧
        (∀ i' : SlotNo, i'.val < i.val → (s.jobAt i').isSome) ∧
        let j := acceptedJob s p f k w;
        s.takes .submit 0x01 p payload ({ s with
          table := s.table.set i ⟨s.table[i].gen, some j⟩
          seqCounter := s.seqCounter + 1
          pages := Vector.ofFn fun q : PageNo =>
            if j.basePage ≤ q.val ∧ q.val < j.basePage + (j.n + 1023) / 1024 then some (s.handleAt i) else s.pages[q]
          limits := match j.limitSet with
            | none => s.limits
            | some x => s.limits.set x { s.limits[x] with references := s.limits[x].references + 1 }
          held := s.held.set p (s.held[p] + 1) } : State).arbitrate .success
            ([(s.handleAt i).code] ++ leBytes 4 s.seqCounter.toNat ++ leBytes 2 j.dEffective ++
              [BitVec.ofNat 8 j.prioEffective,
                BitVec.ofNat 8 ((if j.clamped then 1 else 0) + if j.raised then 2 else 0)]))

/-- The byte layout of a SUBMIT payload (R176). -/
def Obligations.SubmitLayout : Prop :=
  ∀ (tag : BitVec 16) (lane priority window limitSet : Byte) (pnom : BitVec 32) (d n : BitVec 16) (bands : List (BitVec 16)),
    bands.length ≤ 22 →
    let payload := leBytes 2 tag.toNat ++ [lane] ++ leBytes 4 pnom.toNat ++ leBytes 2 d.toNat ++ leBytes 2 n.toNat ++
      [priority, window, limitSet, BitVec.ofNat 8 bands.length] ++ bands.flatMap fun w => leBytes 2 w.toNat;
    payload.length = 15 + 2 * bands.length ∧
      submitFields payload = ⟨tag, lane.toNat, pnom.toNat, d.toNat, n.toNat, priority.toNat, window.toNat, limitSet.toNat,
        bands.map BitVec.toNat⟩

/-- CANCEL: UNKNOWN_JOB, NOT_PERMITTED and TOO_LATE in their order, changing nothing else (R51, R55). Else it is answered success and ends
the job CANCELLED with its counts as they stand. QUEUED: nothing else changes (R52). ACQUIRING: its channel stops and its lane is
disconnected, then the hold is tested and the arbiter decides (R53, R76, R91; that R91's discarded decimation count reads 0 is entry 19).
WAIT_REDUCE: its entry leaves the FIFO and the others keep their order (R54). -/
def Obligations.Cancel : Prop :=
  (∀ (s : State) (p : PortNo) (h : Handle),
     let refused (status : Status) := s.refuses .cancel 0x02 p [h.code] status;
     ((s.jobAt h.slot = none ∨ s.table[h.slot].gen ≠ h.gen) → refused .unknownJob) ∧
     ∀ j, s.jobAt h.slot = some j → s.table[h.slot].gen = h.gen →
       (p ≠ 0 → j.port ≠ p → refused .notPermitted) ∧
       ((p = 0 ∨ j.port = p) → (j.state = .reducing ∨ j.state = .complete) → refused .tooLate)) ∧
  (∀ (s : State) (p : PortNo) (h : Handle) (j : Job), s.linksAgree → s.jobsAgree →
     s.jobAt h.slot = some j → s.table[h.slot].gen = h.gen → (p = 0 ∨ j.port = p) →
     (j.state = .queued → ∃ u, s.takes .cancel 0x02 p [h.code] u .success [] ∧ ended s u h.slot (j.aborted .cancelled) ∧
       u = s.withJobsOf u) ∧
     (j.state = .waitReduce → ∃ u, s.takes .cancel 0x02 p [h.code] u .success [] ∧ ended s u h.slot (j.aborted .cancelled) ∧
       u = { s.withJobsOf u with fifo := s.fifo.filter fun h' => decide (h' ≠ h) }) ∧
     (j.state = .acquiring → ∀ (c : ChannelNo) (k : LaneNo), j.channel = some c → s.xpoint[c] = .lane k →
       ∃ u, s.takes .cancel 0x02 p [h.code] u.decided .success [] ∧ ended s u h.slot (j.aborted .cancelled) ∧
         u = (s.withJobsOf u).freed c k { s.chans[c] with activity := .idle, job := none, timer := none, decimation := 0 }))

/-! ### The Channel Arbiter -/

/-- No grant is made unless the reference is LOCKED, REFLOST clear and the hold RUNNING; every decision ends with no free channel or no
eligible job (R64, R65). A job is eligible exactly when R63's seven conditions hold: QUEUED, the reference LOCKED, REFLOST clear, the hold
RUNNING, its effective priority at least the floor, its lane ONLINE and without a connected channel. -/
def Obligations.DecisionRuns : Prop :=
  (∀ s : State, (s.ref.state ≠ .locked ∨ s.ref.reflost = true ∨ s.hold ≠ .running) → s.arbitrate = s) ∧
  (∀ s : State,
     (∀ c : ChannelNo, ¬ (s.arbitrate.service[c] = .inService ∧ s.arbitrate.chans[c].activity = .idle)) ∨
       ∀ i : SlotNo, ∀ j ∈ s.arbitrate.jobAt i, s.arbitrate.eligible j = false) ∧
  ∀ (s : State) (j : Job), s.eligible j = true ↔
    j.state = .queued ∧ s.ref.state = .locked ∧ s.ref.reflost = false ∧ s.hold = .running ∧ s.floor ≤ j.prioEffective ∧
      s.lanes[j.lane].config.state = .online ∧ s.lanes[j.lane].connected = none

/-- The first-ranked job is eligible and none eligible ranks before it: by effective priority, then by age modulo 2³², then by the lower
slot (R40, R67); the first free channel is the lowest-numbered (R65). With both, a decision grants that channel to that job, as R66 and R82
say, and goes on as a decision of the state that this grant leaves; without one of them it changes nothing (R65). The form of the timer is
entry 20. -/
def Obligations.FirstRankedFirst : Prop :=
  ∀ s : State,
    (∀ i j, s.nextJob = some (i, j) → s.jobAt i = some j ∧ s.eligible j = true ∧
      ∀ (i' : SlotNo) (j' : Job), s.jobAt i' = some j' → s.eligible j' = true → i' ≠ i →
        j'.prioEffective < j.prioEffective ∨ (j'.prioEffective = j.prioEffective ∧
          ((s.seqCounter - j'.sequence).toNat < (s.seqCounter - j.sequence).toNat ∨
            ((s.seqCounter - j'.sequence).toNat = (s.seqCounter - j.sequence).toNat ∧ i.val < i'.val)))) ∧
    (s.nextJob = none → ∀ i : SlotNo, ∀ j ∈ s.jobAt i, s.eligible j = false) ∧
    (∀ c, s.freeChannel = some c → s.service[c] = .inService ∧ s.chans[c].activity = .idle ∧
      ∀ c' : ChannelNo, c'.val < c.val → ¬ (s.service[c'] = .inService ∧ s.chans[c'].activity = .idle)) ∧
    (∀ c i j, s.freeChannel = some c → s.nextJob = some (i, j) →
      s.arbitrate.table[i] = ⟨s.table[i].gen, some { j with state := .acquiring, channel := some c }⟩ ∧
      s.arbitrate.chans[c].job = some (s.handleAt i) ∧ s.arbitrate.xpoint[c] = .lane j.lane ∧
      s.arbitrate = ({ s with
        table := s.table.set i ⟨s.table[i].gen, some { j with state := .acquiring, channel := some c }⟩
        xpoint := s.xpoint.set c (.lane j.lane)
        lanes := s.lanes.set j.lane { s.lanes[j.lane] with
          connected := some c
          qualifier := some ⟨s.lanes[j.lane].config.edge, s.lanes[j.lane].config.filter, s.lanes[j.lane].level, none, []⟩ }
        chans := s.chans.set c ⟨.acquiring, some (s.handleAt i), j.basePage * 1024, j.n, j.dEffective,
          max 16384000000 (4 * (j.dEffective * j.pnom)), 0, 0, s.chans[c].lastTimestamp,
          some (max 16384000000 (4 * (j.dEffective * j.pnom)) + s.ref.fine.toNat)⟩ } : State).arbitrate) ∧
    ((s.freeChannel = none ∨ s.nextJob = none) → s.arbitrate = s)

/-- Every job a decision changes was eligible and is granted a channel that was free: entry, CONNECTED CHANNEL, channel and job are as
R66 and R82 say, edge qualification starts as R20 says, the timer has the full timeout of R88 from the present instant (held as entry 20
says); every other job, channel, lane, and all other state stays. -/
def Obligations.GrantsAreSound : Prop :=
  ∀ s : State,
    let t := s.arbitrate;
    { t with lanes := s.lanes, xpoint := s.xpoint, chans := s.chans, table := s.table } = s ∧
    (∀ i : SlotNo, t.table[i] = s.table[i] ∨ ∃ (j : Job) (c : ChannelNo), s.jobAt i = some j ∧ s.eligible j = true ∧
      s.service[c] = .inService ∧ s.chans[c].activity = .idle ∧
      t.table[i] = ⟨s.table[i].gen, some { j with state := .acquiring, channel := some c }⟩ ∧
      t.xpoint[c] = .lane j.lane ∧
      t.lanes[j.lane] = { s.lanes[j.lane] with
        connected := some c
        qualifier := some ⟨s.lanes[j.lane].config.edge, s.lanes[j.lane].config.filter, s.lanes[j.lane].level, none, []⟩ } ∧
      t.chans[c] = ⟨.acquiring, some (s.handleAt i), j.basePage * 1024, j.n, j.dEffective,
        max 16384000000 (4 * (j.dEffective * j.pnom)), 0, 0, s.chans[c].lastTimestamp,
        some (max 16384000000 (4 * (j.dEffective * j.pnom)) + s.ref.fine.toNat)⟩) ∧
    (∀ c : ChannelNo, (t.chans[c] = s.chans[c] ∧ t.xpoint[c] = s.xpoint[c]) ∨
      ∃ (i : SlotNo) (j : Job), t.jobAt i = some j ∧ s.jobAt i ≠ some j ∧ j.channel = some c) ∧
    (∀ k : LaneNo, t.lanes[k] = s.lanes[k] ∨ ∃ (i : SlotNo) (j : Job), t.jobAt i = some j ∧ s.jobAt i ≠ some j ∧ j.lane = k)

/-- WRITE FLOOR: BAD_VALUE above 4; raised or unchanged, the floor alone changes; lowered, the arbiter decides too (R69). WRITE PROFILE:
BAD_VALUE out of range, else the named port's ceiling and quota are replaced (R70). WRITE SERVICE: BAD_VALUE, CHECK_RUNNING in their
order; else the service state is written, and a change to IN_SERVICE lets the arbiter decide (R72). Each on P0. -/
def Obligations.ArbiterSettings : Prop :=
  (∀ (s : State) (v : Byte),
     (4 < v.toNat → s.refuses .writeFloor 0x25 0 [v] .badValue) ∧
     (v.toNat ≤ 4 → s.floor ≤ v.toNat → s.takes .writeFloor 0x25 0 [v] { s with floor := v.toNat } .success []) ∧
     (v.toNat ≤ 4 → v.toNat < s.floor →
       s.takes .writeFloor 0x25 0 [v] ({ s with floor := v.toNat } : State).arbitrate .success [])) ∧
  (∀ (s : State) (a c q : Byte),
     ((3 < a.toNat ∨ 3 < c.toNat ∨ 16 < q.toNat) → s.refuses .writeProfile 0x24 0 [a, c, q] .badValue) ∧
     ∀ p : PortNo, a.toNat = p.val → c.toNat ≤ 3 → q.toNat ≤ 16 →
       s.takes .writeProfile 0x24 0 [a, c, q] { s with profiles := s.profiles.set p ⟨c.toNat, q.toNat⟩ } .success []) ∧
  (∀ (s : State) (a v : Byte),
     ((3 < a.toNat ∨ 1 < v.toNat) → s.refuses .writeService 0x2D 0 [a, v] .badValue) ∧
     ∀ c : ChannelNo, a.toNat = c.val →
       (v.toNat ≤ 1 → s.verif.running = true → s.verif.mask.getLsbD c.val = true →
         s.refuses .writeService 0x2D 0 [a, v] .checkRunning) ∧
       ((s.verif.running = false ∨ s.verif.mask.getLsbD c.val = false) →
         (v = 1 → s.takes .writeService 0x2D 0 [a, v] { s with service := s.service.set c .outOfService } .success []) ∧
         (v = 0 → s.service[c] = .inService → s.takes .writeService 0x2D 0 [a, v] s .success []) ∧
         (v = 0 → s.service[c] ≠ .inService →
           s.takes .writeService 0x2D 0 [a, v] ({ s with service := s.service.set c .inService } : State).arbitrate .success [])))

/-- HOLD on P0 by the table of R75; RELEASE refused NOTHING_HELD and CHECK_RUNNING in their order, else the hold is RUNNING and the
arbiter decides (R75, R77). -/
def Obligations.HoldAndRelease : Prop :=
  ∀ s : State,
    (s.hold = .running → (∀ c : ChannelNo, s.chans[c].activity ≠ .acquiring) →
      s.takes .hold 0x29 0 [] { s with hold := .active } .success []) ∧
    (s.hold = .running → (∃ c : ChannelNo, s.chans[c].activity = .acquiring) →
      s.takes .hold 0x29 0 [] { s with hold := .pending } .success []) ∧
    (s.hold ≠ .running → s.takes .hold 0x29 0 [] s .success []) ∧
    (s.hold = .running → s.refuses .release 0x2A 0 [] .nothingHeld) ∧
    (s.hold ≠ .running → s.verif.running = true → s.refuses .release 0x2A 0 [] .checkRunning) ∧
    (s.hold ≠ .running → s.verif.running = false →
      s.takes .release 0x2A 0 [] ({ s with hold := .running } : State).arbitrate .success [])

/-! ### Acquisition -/

/-- QUALIFIED_EDGE on an ACQUIRING channel, for the oldest edge that the connected lane's filter, brought to the present instant, has emitted,
with nothing due before it. An edge inside the dead time, or before the decimation count is full after T0, is counted and not stamped; else,
below N, the timestamp is written to word base + captured, the counts rise, the decimation count is 0 and the timer has the full timeout from
the edge on (R3, R83 to R86, R88; the count of an edge before T0 is entry 19, the timer's form entry 20). For an edge that the lane does not
offer the period runs on to its place and no more (entries 4 and 15). What is due before the edge comes first (entry 2): where that ends the
acquisition, the edge reaches no channel (R89, R90, R93). -/
def Obligations.QualifiedEdge : Prop :=
  ∀ (s : State) (c : ChannelNo) (fine : Fine),
    let x := s.chans[c];
    let t : Timestamp := s.ref.counter ++ fine;
    let count := min 65535 (x.decimation + 1);
    let stampable := ∀ last, x.lastTimestamp = some last → 262144 ≤ (t - last).toNat;
    (∀ u, s.passTo fine = .next u →
      (u.chans[c].activity ≠ .acquiring → exec (.qualifiedEdge c fine) s = .next u) ∧
      (u.quietBefore fine.toNat → exec (.qualifiedEdge c fine) s = exec (.qualifiedEdge c fine) u)) ∧
    (s.quietBefore fine.toNat → x.activity ≠ .acquiring → exec (.qualifiedEdge c fine) s = .next (s.upTo fine)) ∧
    ∀ (h : Handle) (j : Job) (k : LaneNo) (q : Qualifier) (r : Nat), s.quietBefore fine.toNat → x.activity = .acquiring →
      x.job = some h → s.jobAt h.slot = some j → s.xpoint[c] = .lane k → x.timer = some r →
      (s.lanes[k].settle (s.ref.counter ++ (s.upTo fine).ref.fine)).qualifier = some q →
      let taken : State := { s.upTo fine with
        lanes := s.lanes.set k { s.lanes[k] with qualifier := some { q with emitted := q.emitted.tail } } };
      (q.emitted.head? ≠ some t → exec (.qualifiedEdge c fine) s = .next (s.upTo fine)) ∧
      (q.emitted.head? = some t →
        ((¬ stampable ∨ (x.captured ≠ 0 ∧ count < x.d)) →
          exec (.qualifiedEdge c fine) s = .next { taken with chans := s.chans.set c { x with decimation := count } }) ∧
        (stampable → (x.captured = 0 ∨ x.d ≤ count) → x.captured + 1 < x.n → x.baseWord + x.captured < 65536 →
          ∃ u, exec (.qualifiedEdge c fine) s = .next u ∧
            (s.memoryCanonical → ∀ a, u.mem.read a = if a = x.baseWord + x.captured then t else s.mem.read a) ∧
            u = { taken with
              mem := u.mem
              chans := s.chans.set c { x with
                captured := x.captured + 1, decimation := 0, lastTimestamp := some t, timer := some (x.timeout + fine.toNat) }
              table := s.table.set h.slot ⟨s.table[h.slot].gen, some { j with captured := x.captured + 1 }⟩ }))

/-- The N-th timestamp: it is written, the channel is IDLE with N captured and the lane disconnected, the job waits for reduction with N
timestamps at the FIFO's tail, or is being reduced if the unit was idle; then a pending hold is active once no channel is ACQUIRING, and the
arbiter decides (R76, R86, R87, R111, R112). Nothing else changes. What is due before the edge comes first: QualifiedEdge. -/
def Obligations.NthTimestamp : Prop :=
  ∀ (s : State) (c : ChannelNo) (fine : Fine) (h : Handle) (j : Job) (k : LaneNo) (q : Qualifier) (r : Nat),
    s.memoryCanonical → s.linksAgree → s.jobsAgree → s.inBounds →
    let x := s.chans[c];
    let t : Timestamp := s.ref.counter ++ fine;
    x.job = some h → s.jobAt h.slot = some j → s.xpoint[c] = .lane k → x.timer = some r →
    s.quietBefore fine.toNat →
    (s.lanes[k].settle (s.ref.counter ++ (s.upTo fine).ref.fine)).qualifier = some q → q.emitted.head? = some t →
    x.captured + 1 = x.n → (∀ last, x.lastTimestamp = some last → 262144 ≤ (t - last).toNat) →
    x.d ≤ min 65535 (x.decimation + 1) →
    ∃ u, exec (.qualifiedEdge c fine) s = .next u.decided ∧
      (∀ a, u.mem.read a = if a = x.baseWord + x.captured then t else s.mem.read a) ∧
      u = ({ s.upTo fine with
        mem := u.mem
        table := s.table.set h.slot ⟨s.table[h.slot].gen, some { j with
          state := if s.current = none then .reducing else .waitReduce
          channel := none
          captured := j.n }⟩
        fifo := if s.current = none then [] else s.fifo ++ [h]
        current := if s.current = none then some h else s.current } : State).freed c k { x with
          activity := .idle, job := none, timer := none, captured := x.n, decimation := 0, lastTimestamp := some t }

/-- STARVATION_EXPIRY on an ACQUIRING channel whose timer ends in the present coarse period, with nothing due before: the job ends NO_EDGES
with its counts as they stand, the channel is IDLE and its lane disconnected; then the hold is tested and the arbiter decides (R76, R89);
nothing else changes. Without a running timer, or with one that ends later, nothing changes (entry 4). What is due before comes first: an edge
that restarts the timer, or another end of the acquisition, leaves no expiry (R89, R90, R93; entry 2). -/
def Obligations.StarvationExpiry : Prop :=
  ∀ (s : State) (c : ChannelNo),
    (s.chans[c].timer = none → exec (.starvationExpiry c) s = .next s) ∧
    ∀ r, s.chans[c].timer = some r →
      (65536 ≤ r → exec (.starvationExpiry c) s = .next s) ∧
      (r < 65536 → ∀ u, s.passTo (BitVec.ofNat 16 r) = .next u →
        ((u.chans[c].activity ≠ .acquiring ∨ ∀ r', u.chans[c].timer = some r' → u.ref.fine.toNat < r') →
          exec (.starvationExpiry c) s = .next u) ∧
        (u.chans[c].timer = some r → u.quietBefore r → exec (.starvationExpiry c) s = exec (.starvationExpiry c) u)) ∧
      ∀ (h : Handle) (j : Job) (k : LaneNo), s.quietBefore r → s.linksAgree → s.jobsAgree → s.chans[c].job = some h →
        s.jobAt h.slot = some j → s.xpoint[c] = .lane k → r < 65536 →
        ∃ u, exec (.starvationExpiry c) s = .next u.decided ∧ ended s u h.slot (j.aborted .noEdges) ∧
          u = (({ s with ref := (s.upTo (BitVec.ofNat 16 r)).ref } : State).withJobsOf u).freed c k
            { s.chans[c] with activity := .idle, job := none, timer := none }

/-! ### Windows -/

/-- WRITE WINDOW on P0: BAD_WINDOW when a field is out of its range, else the descriptor is replaced whole and nothing else changes
(R101, R102). -/
def Obligations.WriteWindow : Prop :=
  ∀ (s : State) (a b k base length : Byte),
    let payload := [a, b, k, base, length];
    ((3 < a.toNat ∨ 7 < b.toNat ∨ 2 < k.toNat ∨ length = 0 ∨ 16 < length.toNat ∨ 64 < base.toNat + length.toNat) →
      s.refuses .writeWindow 0x23 0 payload .badWindow) ∧
    ∀ (q : PortNo) (w : WindowNo) (key : Key), a.toNat = q.val → b.toNat = w.val →
      k = (match key with | .absent => 0 | .read => 1 | .readWrite => 2) → 1 ≤ length.toNat → length.toNat ≤ 16 →
      base.toNat + length.toNat ≤ 64 →
      s.takes .writeWindow 0x23 0 payload { s with
        windows := s.windows.set q (s.windows[q].set w ⟨key, base.toNat, length.toNat⟩) } .success []

/-! ### Reduction -/

/-- REDUCTION_COMPLETE ends the current job DONE: its result is the arithmetic of its N words from its base word, BAND_SHORT tells an
absent band, its bin is the first failing test's or NOT_BINNED, and the unit takes the head of the FIFO or is IDLE (R112, R113, R115,
R141, R146). Without a current job nothing changes (entry 4). -/
def Obligations.ReductionComplete : Prop :=
  ∀ s : State,
    (s.current = none → exec .reductionComplete s = .next s) ∧
    ∀ (h : Handle) (j : Job), s.jobsAgree → s.inBounds → s.current = some h → s.jobAt h.slot = some j →
      let r := reduce ((List.range j.n).map fun k => s.mem.read (j.basePage * 1024 + k)) j.dEffective j.pnom j.bands;
      let verdict : Verdict :=
        match j.limitSet with
        | none => ⟨.notBinned, none, none⟩
        | some x => firstFailure (binTests s.limits[x].fields j.runts r);
      ∃ u t, exec .reductionComplete s = .next t ∧
        ended s u h.slot { j with
          state := .complete, channel := none, outcome := some .done, verdict := some verdict, result := some r
          bandShort := decide (∃ b ∈ r.bands, b.rms16 = none) } ∧
        u = { s.withJobsOf u with current := none } ∧
        (s.fifo = [] → t = u) ∧
        ∀ (h' : Handle) (rest : List Handle) (j' : Job), s.fifo = h' :: rest → s.jobAt h'.slot = some j' →
          t = { u with
            fifo := rest
            current := some h'
            table := u.table.set h'.slot ⟨s.table[h'.slot].gen, some { j' with state := .reducing }⟩ }

/-- Interval k is (T_(k+1) − T_k) modulo 2⁴⁸; the N − 1 intervals add up, modulo 2⁴⁸, to the time from T_0 to T_(N−1), and the cumulative positions run from 0 to their sum (R118).
SLIPS counts the intervals below lo or above hi, and PJ_PP is the largest less the smallest (R119, R120). -/
def Obligations.IntervalFigures : Prop :=
  (∀ (t : List Timestamp) (k : Nat) (a b : Timestamp), t[k]? = some a → t[k + 1]? = some b →
     (intervals t)[k]? = some (b - a).toNat) ∧
  (∀ (a b : Timestamp) (l : List Timestamp),
     (intervals (a :: l ++ [b])).length = l.length + 1 ∧ (intervals (a :: l ++ [b])).sum % 2 ^ 48 = (b - a).toNat ∧
       (cumulative 0 (intervals (a :: l ++ [b]))).head? = some 0 ∧
       (cumulative 0 (intervals (a :: l ++ [b]))).getLast? = some (intervals (a :: l ++ [b])).sum) ∧
  (∀ (a b : Timestamp) (l : List Timestamp) (d pnom : Nat) (bands : List Nat),
     let i := intervals (a :: b :: l);
     let r := reduce (a :: b :: l) d pnom bands;
     r.slips = i.countP (fun v => decide (v < d * pnom - d * pnom / 8 ∨ d * pnom + d * pnom / 8 < v)) ∧
       ∃ hi ∈ i, ∃ lo ∈ i, (∀ v ∈ i, lo ≤ v ∧ v ≤ hi) ∧ r.pjPp = hi - lo)

/-- For every result: C2C_MAX ≤ PJ_PP, FO within ±2,147,483,647 and saturated only at 2,147,483,647; with no slip PJ_PP is at most
2 × floor(Inom / 8) (R120, R122, R132). -/
def Obligations.ResultRelations : Prop :=
  ∀ (t : List Timestamp) (d pnom : Nat) (bands : List Nat), 2 ≤ t.length → 1 ≤ d → 1 ≤ pnom →
    let r := reduce t d pnom bands;
    r.c2cMax ≤ r.pjPp ∧ -2147483647 ≤ r.fo ∧ r.fo ≤ 2147483647 ∧ (r.foSat = true → r.fo = 2147483647) ∧
      (r.slips = 0 → r.pjPp ≤ 2 * (d * pnom / 8))

/-- isqrt(v) is the largest integer whose square does not exceed v (R117). FO before its bound is 10⁹ × (Δ − M × Inom) over M × Inom
rounded half away from zero (R122). The chord position h_k is k × Δ / M rounded half up, 0 at k = 0 and Δ at k = M (R125). M × Q − S² is
never below zero, nor is a block's W × sq − sx² (R123, R128). -/
def Obligations.RoundingsAndVariance : Prop :=
  (∀ v, isqrt v * isqrt v ≤ v ∧ v < (isqrt v + 1) * (isqrt v + 1)) ∧
  (∀ total m inom : Nat, 0 < m * inom →
     let num : Int := 1000000000 * ((total : Int) - m * inom);
     let den : Int := m * inom;
     let fo := frequencyOffset total m inom;
     2 * (fo * den - num) ≤ den ∧ -den ≤ 2 * (fo * den - num) ∧ (0 < num → -den < 2 * (fo * den - num)) ∧
       (num < 0 → 2 * (fo * den - num) < den)) ∧
  (∀ total m k : Nat, 0 < m → chord total m 0 = 0 ∧ chord total m m = total ∧
     2 * m * chord total m k ≤ 2 * k * total + m ∧ 2 * k * total + m < 2 * m * (chord total m k + 1)) ∧
  (∀ l : List Int, l.sum.natAbs * l.sum.natAbs ≤ l.length * sumSquares l)

/-- The figures of a result from its intervals I, with M of them, their sum Δ and D: MP16 is the mean period in 1/16 tick rounded half up
(R121). FO is the frequency offset of Δ, M and Inom (RoundingsAndVariance) bounded to ±2,147,483,647, and FO_SAT is set exactly when the
bound changed it (R122). PJ_RMS16 is the root of floor(256 × (M × Q − S²) / M²) for the deviations from Inom (R123), C2C_RMS16 of floor(256 × sum of squares
/ (M − 1)) for the steps between successive intervals (R124), TIE_RMS16 of the same over N for the errors against the chord (R125, R126),
each root rounded down. C2C_MAX is the largest step in size (R120), TIE_PP the largest error less the smallest (R126). BAND_RMS16 of a
present band is the root of floor(256 × R / (K × W²)), R the sum of W × sq − sx² over its K whole blocks from the first error on (R128). -/
def Obligations.Figures : Prop :=
  ∀ (t : List Timestamp) (d pnom : Nat) (bands : List Nat), 3 ≤ t.length → 1 ≤ d →
    let i := intervals t;
    let m := i.length;
    let total := i.sum;
    let r := reduce t d pnom bands;
    let squares (l : List Int) : Int := (l.map fun x => x * x).sum;
    let rootOf (root : Nat) (num : Int) (den : Nat) : Prop :=
      ((root * root * den : Nat) : Int) ≤ num ∧ num < (((root + 1) * (root + 1) * den : Nat) : Int);
    let deviations : List Int := i.map fun v => (v : Int) - ((d * pnom : Nat) : Int);
    let stepsOf : List Int := (i.zip i.tail).map fun p => (p.2 : Int) - p.1;
    let errors : List Int := (List.range t.length).map fun k =>
      (((i.take k).sum : Nat) : Int) - (((2 * k * total + m) / (2 * m) : Nat) : Int);
    let offset := frequencyOffset total m (d * pnom);
    (∃ e : Nat, e < m * d ∧ r.mp16 * (m * d) + e = 16 * total + m * d / 2) ∧
    (r.fo = if 2147483647 < offset then 2147483647 else if offset < -2147483647 then -2147483647 else offset) ∧
    (r.foSat = true ↔ 2147483647 < offset ∨ offset < -2147483647) ∧
    rootOf r.pjRms16 (256 * (m * squares deviations - deviations.sum * deviations.sum)) (m * m) ∧
    rootOf r.c2cRms16 (256 * squares stepsOf) (m - 1) ∧ rootOf r.tieRms16 (256 * squares errors) t.length ∧
    ((∀ x ∈ stepsOf, x.natAbs ≤ r.c2cMax) ∧ ∃ x ∈ stepsOf, x.natAbs = r.c2cMax) ∧
    (∃ hi ∈ errors, ∃ lo ∈ errors, (∀ x ∈ errors, lo ≤ x ∧ x ≤ hi) ∧ (r.tiePp : Int) = hi - lo) ∧
    ∀ (b w v : Nat) (e : BandResult), bands[b]? = some w → 1 ≤ w → r.bands[b]? = some e → e.rms16 = some v →
      let k := t.length / w;
      let block (n : Nat) : List Int := (List.range w).map fun a => errors.getD (n * w + a) 0;
      rootOf v (256 * ((List.range k).map fun n => w * squares (block n) - (block n).sum * (block n).sum).sum) (k * (w * w))

/-- A result has one band entry for each position of the band list, with its W and BAND_LO_HZ; BAND_RMS16 is absent exactly when N
is below 2 × W (R127, R129, R130). -/
def Obligations.BandEntries : Prop :=
  ∀ (t : List Timestamp) (d pnom : Nat) (bands : List Nat), 2 ≤ t.length →
    let r := reduce t d pnom bands;
    r.bands.length = bands.length ∧ r.fnomHz = 16384000000000 / pnom ∧ r.bandHiHz = 16384000000000 / pnom / (2 * d) ∧
      ∀ (b : Nat) (w : Nat) (e : BandResult), bands[b]? = some w → r.bands[b]? = some e →
        e.w = w ∧ e.loHz = 16384000000000 / pnom / (d * w) ∧ (e.rms16 = none ↔ t.length < 2 * w)

/-! ### Limit sets and binning -/

/-- WRITE LIMIT on P0: BAD_VALUE, LIMITS_FROZEN in their order; else SET makes the field present with the value, REMOVE makes it
absent, an EMPTY set becomes OPEN, and nothing else changes (R133, R136; that field code 12 is out of range is entry 16). -/
def Obligations.WriteLimit : Prop :=
  ∀ (s : State) (a b act : Byte) (v : BitVec 64),
    let payload := [a, b, act] ++ leBytes 8 v.toNat;
    let largest (i : FieldNo) : Nat :=
      [65535, 2147483647, 2 ^ 48 - 1, 2 ^ 40 - 1, 2 ^ 48 - 1, 2 ^ 40 - 1, 2 ^ 56 - 1, 2 ^ 56 - 1, 2 ^ 56 - 1, 2 ^ 56 - 1,
        2 ^ 56 - 1, 2 ^ 56 - 1].getD i.val 0;
    ((7 < a.toNat ∨ 11 < b.toNat ∨ 1 < act.toNat) → s.refuses .writeLimit 0x26 0 payload .badValue) ∧
    ∀ (x : SetNo) (i : FieldNo), a.toNat = x.val → b.toNat = i.val →
      (act = 1 → largest i < v.toNat → s.refuses .writeLimit 0x26 0 payload .badValue) ∧
      ((act = 0 ∨ (act = 1 ∧ v.toNat ≤ largest i)) →
        (s.limits[x].state = .frozen → s.refuses .writeLimit 0x26 0 payload .limitsFrozen) ∧
        (s.limits[x].state ≠ .frozen → s.takes .writeLimit 0x26 0 payload { s with
          limits := s.limits.set x { s.limits[x] with
            state := .opened
            fields := s.limits[x].fields.set i (if act = 1 then some v.toNat else none) } } .success []))

/-- FREEZE and THAW on P0: their refusals in order, OPEN to FROZEN, FROZEN with reference count 0 to OPEN with its fields kept, and
success with no change elsewhere (R137, R138). -/
def Obligations.FreezeAndThaw : Prop :=
  ∀ (s : State) (b : Byte),
    let frozen (u : State) (status : Status) := s.takes .freeze 0x27 0 [b] u status [];
    let thawed (u : State) (status : Status) := s.takes .thaw 0x28 0 [b] u status [];
    (7 < b.toNat → frozen s .badValue ∧ thawed s .badValue) ∧
    ∀ x : SetNo, b.toNat = x.val →
      let become (st : SetState) : State := { s with limits := s.limits.set x { s.limits[x] with state := st } };
      (s.limits[x].state = .empty → frozen s .limitsEmpty ∧ thawed s .success) ∧
      (s.limits[x].state = .opened → frozen (become .frozen) .success ∧ thawed s .success) ∧
      (s.limits[x].state = .frozen → frozen s .success ∧
        (0 < s.limits[x].references → thawed s .limitsInUse) ∧
        (s.limits[x].references = 0 → thawed (become .opened) .success))

/-- The Binner (R142 to R145). Its verdict is that of the first of thirteen tests that fails, each with its BIN and FAILED TEST: SLIPS above 0
whatever the set holds, then each present limit that its figure exceeds, in the order of R143, a band limit failing as INCOMPLETE on a band
absent from the result and as BAND with its position on a larger figure. PASS is given exactly when there is no slip and every present
limit is met, a band limit being met only by a present band. -/
def Obligations.BinnerOrder : Prop :=
  ∀ (f : Vector (Option Nat) 12) (runts : Nat) (r : Result),
    let v := firstFailure (binTests f runts r);
    let above (i : Fin 12) (figure : Nat) : Bool := f[i].any fun m => decide (m < figure);
    let figure (b : Fin 4) : Option Nat := r.bands[b.val]?.bind fun e => e.rms16;
    let bandTests (i : Fin 12) (b : Fin 4) : List (Bool × Verdict) :=
      [(f[i].isSome && (figure b).isNone, ⟨.incomplete, some .bandRms16Max, some b⟩),
        ((figure b).any (above i), ⟨.band, some .bandRms16Max, some b⟩)];
    let tests : List (Bool × Verdict) :=
      [(decide (0 < r.slips), ⟨.edge, some .slips, none⟩), (above 0 runts, ⟨.edge, some .runtMax, none⟩),
        (above 1 r.fo.natAbs, ⟨.freq, some .foMax, none⟩), (above 2 r.pjRms16, ⟨.period, some .pjRms16Max, none⟩),
        (above 3 r.pjPp, ⟨.period, some .pjPpMax, none⟩), (above 4 r.c2cRms16, ⟨.c2c, some .c2cRms16Max, none⟩),
        (above 5 r.c2cMax, ⟨.c2c, some .c2cMaxMax, none⟩), (above 6 r.tieRms16, ⟨.tie, some .tieRms16Max, none⟩),
        (above 7 r.tiePp, ⟨.tie, some .tiePpMax, none⟩)] ++
        bandTests 8 0 ++ bandTests 9 1 ++ bandTests 10 2 ++ bandTests 11 3;
    let met (i : Fin 12) (x : Nat) : Prop := ∀ m, f[i] = some m → x ≤ m;
    let bandMet (i : Fin 12) (b : Fin 4) : Prop := ∀ m, f[i] = some m → ∃ x, figure b = some x ∧ x ≤ m;
    v = ((tests.find? Prod.fst).map Prod.snd).getD ⟨.pass, none, none⟩ ∧
    (v.bin = .pass ↔ r.slips = 0 ∧ met 0 runts ∧ met 1 r.fo.natAbs ∧ met 2 r.pjRms16 ∧ met 3 r.pjPp ∧ met 4 r.c2cRms16 ∧
      met 5 r.c2cMax ∧ met 6 r.tieRms16 ∧ met 7 r.tiePp ∧ bandMet 8 0 ∧ bandMet 9 1 ∧ bandMet 10 2 ∧ bandMet 11 3)

/-! ### Completion queues -/

/-- TAKE COMPLETION: EMPTY on an empty queue; else the head record is returned and leaves. With nothing waiting, ATTN stays while a
record is left or, on P0, REFLOST is set. A service record or a COMPLETE job at the head of the waiting completions enters at the tail
with the line time of now; the job's slot, count and reference are given up (R50, R150, R153, R155, R156). -/
def Obligations.TakeCompletion : Prop :=
  ∀ (s : State) (p : PortNo),
    (s.queues[p].queue = [] → s.takes .takeCompletion 0x04 p [] s .empty []) ∧
    ∀ record rest, s.queues[p].queue = record :: rest →
      (s.queues[p].waiting = [] →
        s.takes .takeCompletion 0x04 p [] { s with
          queues := s.queues.set p ⟨rest, [], decide (rest ≠ []) || (decide (p = 0) && s.ref.reflost)⟩ } .success record.bytes) ∧
      (∀ r d w, s.queues[p].waiting = .service r d :: w →
        s.takes .takeCompletion 0x04 p [] { s with
          queues := s.queues.set p ⟨rest ++ [.service r s.ref.lineTime (decide (s.ref.source = .rc)) d], w, true⟩ } .success
            record.bytes) ∧
      (∀ h w j, s.queues[p].waiting = .job h :: w → s.jobAt h.slot = some j → s.table[h.slot].gen = h.gen →
        j.state = .complete →
        s.takes .takeCompletion 0x04 p [] { s with
          queues := s.queues.set p ⟨rest ++ [.job h j s.ref.lineTime (decide (s.ref.source = .rc))], w, true⟩
          table := s.table.set h.slot ⟨s.table[h.slot].gen + 1, none⟩
          held := s.held.set j.port (s.held[j.port] - 1)
          limits := match j.limitSet with
            | none => s.limits
            | some x => s.limits.set x { s.limits[x] with references := s.limits[x].references - 1 } } .success record.bytes)

/-- The layouts of the records a TAKE COMPLETION returns, before the pad byte: each field of a JOB record at its place, its RESULT from
byte 40 on, and the FILL and CHECK records (R178). -/
def Obligations.RecordLayout : Prop :=
  (∀ (h : Handle) (j : Job) (lineTime : LineTime) (degraded : Bool),
     let bytes := (Record.job h j lineTime degraded).bytes;
     let holds (offset k v : Nat) : Prop := field bytes offset k = v % 256 ^ k;
     let flag (b : Bool) (k : Nat) : Nat := if b then 2 ^ k else 0;
     bytes.length = (if j.result.isSome then 141 else 40) ∧ holds 0 1 1 ∧ holds 1 1 h.code.toNat ∧
       holds 2 1 (match j.outcome with
         | none => 255 | some .done => 0 | some .cancelled => 1 | some .refLost => 2 | some .noEdges => 3
         | some .laneOffline => 4 | some .stopped => 5) ∧
       (∀ v, j.verdict = some v →
         holds 3 1 (match v.bin with
           | .pass => 0 | .edge => 1 | .freq => 2 | .period => 3 | .c2c => 4 | .tie => 5 | .band => 6 | .incomplete => 7
           | .notBinned => 8 | .aborted => 9) ∧
         holds 26 1 (match v.failed with
           | none => 255 | some .slips => 0 | some .runtMax => 1 | some .foMax => 2 | some .pjRms16Max => 3 | some .pjPpMax => 4
           | some .c2cRms16Max => 5 | some .c2cMaxMax => 6 | some .tieRms16Max => 7 | some .tiePpMax => 8
           | some .bandRms16Max => 9) ∧
         holds 27 1 (match v.band with | none => 255 | some b => b.val)) ∧
       holds 4 2 j.tag.toNat ∧ holds 6 4 j.sequence.toNat ∧ holds 10 1 j.lane.val ∧ holds 11 1 j.window.val ∧ holds 12 4 j.pnom ∧
       holds 16 2 j.dEffective ∧ holds 18 2 j.n ∧ holds 20 2 j.captured ∧ holds 22 2 j.runts ∧ holds 24 1 j.prioEffective ∧
       holds 25 1 (match j.limitSet with | none => 255 | some x => x.val) ∧
       holds 28 1 (flag j.clamped 0 + flag j.raised 1 + flag j.bandShort 2 + flag degraded 3 +
         flag (j.result.any fun r => r.foSat) 4) ∧
       holds 29 1 j.bands.length ∧ (∀ b : Fin 4, holds (30 + b.val) 1 (Nat.log2 (j.bands.getD b.val 1))) ∧
       holds 34 5 lineTime.toNat ∧ holds 39 1 (if j.result.isSome then 1 else 0) ∧
       ∀ r, j.result = some r → holds 40 2 r.slips ∧ holds 42 5 r.pjPp ∧ holds 47 5 r.c2cMax ∧ holds 52 6 r.mp16 ∧
         holds 58 4 (r.fo % 4294967296).toNat ∧ holds 62 6 r.pjRms16 ∧ holds 68 6 r.c2cRms16 ∧ holds 74 7 r.tiePp ∧
         holds 81 7 r.tieRms16 ∧ holds 88 4 r.fnomHz ∧ holds 92 4 r.bandHiHz ∧
         holds 96 1 (((List.range 4).map fun b => flag (r.bands[b]?.bind fun e => e.rms16).isSome b).sum) ∧
         ∀ b : Fin 4, (r.bands[b.val]? = none → holds (97 + 11 * b.val) 11 0) ∧
           ∀ e, r.bands[b.val]? = some e → holds (97 + 11 * b.val) 4 e.loHz ∧ holds (101 + 11 * b.val) 7 (e.rms16.getD 0)) ∧
  (∀ (o : EndOutcome) (first last written skipped : Nat) (lineTime : LineTime) (degraded older : Bool),
     (Record.service (.fill o first last written skipped) lineTime degraded older).bytes =
       ([2, o.code, BitVec.ofNat 8 first, BitVec.ofNat 8 last, BitVec.ofNat 8 written, BitVec.ofNat 8 skipped,
         BitVec.ofNat 8 ((if degraded then 8 else 0) + if older then 32 else 0)] : List Byte) ++ leBytes 5 lineTime.toNat) ∧
  ∀ (o : EndOutcome) (mask : BitVec 4) (e tolerance threshold scored : Nat) (errors : Vector Nat 4) (service : Vector Service 4)
    (lineTime : LineTime) (degraded older : Bool),
    (Record.service (.check o mask e tolerance threshold scored errors service) lineTime degraded older).bytes =
      ([3, o.code, BitVec.ofNat 8 mask.toNat, BitVec.ofNat 8 ((if degraded then 8 else 0) + if older then 32 else 0)] : List Byte) ++
        leBytes 2 e ++ leBytes 2 tolerance ++ leBytes 2 threshold ++ leBytes 2 scored ++
        ((List.finRange 4).flatMap fun c => leBytes 2 errors[c]) ++
        ((List.finRange 4).map fun c => (match service[c] with | .inService => 0 | .outOfService => 1 | .suspect => 2 : Byte)) ++
        leBytes 5 lineTime.toNat

/-! ### Verification -/

/-- CHECK CHANNELS on P0: BAD_VALUE, NOT_HELD, CHECK_RUNNING, REF_NOT_LOCKED in their order; else the check starts: parameters taken, counts and
selected counters 0, selected channels CHECKING on CAL, the register all ones, edge 0 due 4,194,304 ticks on (R160 to R162). STOP CHECK on P0:
no change in IDLE; a running check ends STOPPED, its channels IDLE without entry, counters and service states kept, and a CHECK record is
offered to P0 (R166, R167). What the model keeps of the generator's time is entry 14, the present instant it starts from entry 2. -/
def Obligations.CheckStartAndStop : Prop :=
  (∀ (s : State) (mask : Byte) (e tolerance threshold : BitVec 16),
     let payload := [mask] ++ leBytes 2 e.toNat ++ leBytes 2 tolerance.toNat ++ leBytes 2 threshold.toNat;
     let bad := mask = 0 ∨ 15 < mask.toNat ∨ e.toNat < 1024 ∨ tolerance.toNat < 16 ∨ 4096 < tolerance.toNat;
     let refused (status : Status) := s.refuses .checkChannels 0x2B 0 payload status;
     (bad → refused .badValue) ∧ (¬ bad → s.hold ≠ .active → refused .notHeld) ∧
     (¬ bad → s.hold = .active → s.verif.running = true → refused .checkRunning) ∧
     (¬ bad → s.hold = .active → s.verif.running = false → s.ref.state ≠ .locked → refused .refNotLocked) ∧
     (¬ bad → s.hold = .active → s.verif.running = false → s.ref.state = .locked →
       s.takes .checkChannels 0x2B 0 payload { s with
         verif := ⟨true, BitVec.ofNat 4 mask.toNat, e.toNat, tolerance.toNat, threshold.toNat, 0x7FFF, 0, 0,
           Vector.ofFn fun c : ChannelNo => if mask.getLsbD c.val then 0 else s.verif.errors[c],
           (s.ref.counter ++ s.ref.fine) + 4194304, 4194304⟩
         chans := Vector.ofFn fun c : ChannelNo =>
           if mask.getLsbD c.val then { s.chans[c] with activity := .checking } else s.chans[c]
         xpoint := Vector.ofFn fun c : ChannelNo => if mask.getLsbD c.val then .cal else s.xpoint[c] } .success [])) ∧
  (∀ s : State,
     (s.verif.running = false → s.takes .stopCheck 0x2C 0 [] s .success []) ∧
     (s.verif.running = true → s.hold = .active →
       s.takes .stopCheck 0x2C 0 [] (({ s with
         verif := { s.verif with running := false }
         chans := Vector.ofFn fun c : ChannelNo =>
           if s.verif.mask.getLsbD c.val then { s.chans[c] with activity := .idle } else s.chans[c]
         xpoint := Vector.ofFn fun c : ChannelNo =>
           if s.verif.mask.getLsbD c.val then .none else s.xpoint[c] } : State).reported
             (.check .stopped s.verif.mask s.verif.e s.verif.tolerance s.verif.threshold s.verif.scored s.verif.errors
               s.service)) .success []))

/-- A CAL edge, at the instant R162 gives it: every channel on CAL stamps it (R163; with no test of the dead time, entry 29), a scored
interval raises the scored count and the counter of each selected channel off by more than the tolerance (R164), and before the last edge
the register steps to set the next interval (R162). Edge E + 2 scores interval E + 1, so that SCORED is E, and ends the check DONE: each
selected channel IN_SERVICE or SUSPECT by its counter and the threshold, IDLE and without entry, and a CHECK record made (R164 to R166). The
stamping errors as operands are entry 14. With no check running, or in a coarse period without the edge's instant, nothing changes (entry
4). What is due before the edge comes first: where that ends the check, no edge comes (R168; entry 2). -/
def Obligations.CalEdges : Prop :=
  ∀ (s : State) (e0 e1 e2 e3 : Int),
    let v := s.verif;
    ((v.running = false ∨ v.nextEdge.extractLsb' 16 32 ≠ s.ref.counter) → exec (.calEdge e0 e1 e2 e3) s = .next s) ∧
    (v.running = true → v.nextEdge.extractLsb' 16 32 = s.ref.counter → v.emitted ≤ v.e + 2 →
      ∀ u, s.passTo (v.nextEdge.extractLsb' 0 16) = .next u →
        (u.verif.running = false → exec (.calEdge e0 e1 e2 e3) s = .next u) ∧
        (u.verif = v → u.ref.counter = s.ref.counter → u.quietBefore (v.nextEdge.extractLsb' 0 16).toNat →
          exec (.calEdge e0 e1 e2 e3) s = exec (.calEdge e0 e1 e2 e3) u)) ∧
    (v.running = true → v.nextEdge.extractLsb' 16 32 = s.ref.counter → v.emitted ≤ v.e + 2 →
      s.quietBefore (v.nextEdge.extractLsb' 0 16).toNat →
      let stamp (c : ChannelNo) : Timestamp := v.nextEdge + BitVec.ofInt 48 ([e0, e1, e2, e3].getD c.val 0);
      let bit := v.prbs.getLsbD 14 ^^ v.prbs.getLsbD 13;
      let length := if bit then 4195328 else 4193280;
      let scores (t : State) : Prop :=
        (∀ c : ChannelNo, t.chans[c].lastTimestamp = if s.xpoint[c] = .cal then some (stamp c) else s.chans[c].lastTimestamp) ∧
        t.verif.emitted = v.emitted + 1 ∧ t.verif.scored = v.scored + (if 3 ≤ v.emitted then 1 else 0) ∧
        (∀ c : ChannelNo, ∀ last, s.chans[c].lastTimestamp = some last → t.verif.errors[c] =
          if 3 ≤ v.emitted ∧ v.mask.getLsbD c.val ∧ (v.interval + v.tolerance < (stamp c - last).toNat ∨
            (stamp c - last).toNat + v.tolerance < v.interval)
          then min 65535 (v.errors[c] + 1) else v.errors[c]) ∧
        t.ref = (s.upTo (v.nextEdge.extractLsb' 0 16)).ref ∧ t.mem = s.mem ∧ t.table = s.table ∧ t.hold = s.hold;
      (v.emitted < v.e + 2 → ∃ t, exec (.calEdge e0 e1 e2 e3) s = .next t ∧ scores t ∧
        t.verif.prbs.toNat = (2 * v.prbs.toNat + if bit then 1 else 0) % 32768 ∧
        t.verif.interval = length ∧ t.verif.nextEdge = v.nextEdge + BitVec.ofNat 48 length ∧
        t.verif.running = true ∧ t.service = s.service ∧ t.xpoint = s.xpoint ∧ t.queues = s.queues) ∧
      (v.emitted = v.e + 2 → s.linksAgree → ∃ t, exec (.calEdge e0 e1 e2 e3) s = .next t ∧ scores t ∧ t.verif.scored = v.e ∧
        t.verif.running = false ∧
        (∀ c : ChannelNo, v.mask.getLsbD c.val = true → t.chans[c].activity = .idle ∧ t.xpoint[c] = .none ∧
          t.service[c] = if t.verif.errors[c] ≤ v.threshold then .inService else .suspect) ∧
        (∀ c : ChannelNo, v.mask.getLsbD c.val = false → t.service[c] = s.service[c] ∧ t.xpoint[c] = s.xpoint[c] ∧
          t.chans[c].activity = s.chans[c].activity) ∧
        t.queues = (s.reported (.check .done v.mask v.e v.tolerance v.threshold v.e t.verif.errors t.service)).queues))

/-- The calibration sequence: the first fourteen intervals after the all-ones seed are short, the fifteenth is long, and the sequence
repeats after 32,767 steps and no sooner (R162). -/
def Obligations.PrbsPeriod : Prop :=
  let seed : BitVec 15 := 0x7FFF;
  (∀ i < 14, prbsBit (prbsStep^[i] seed) = false) ∧ prbsBit (prbsStep^[14] seed) = true ∧ prbsStep^[32767] seed = seed ∧
    ∀ i, 0 < i → i < 32767 → prbsStep^[i] seed ≠ seed

/-! ### Port reset -/

/-- A port reset of `q`, by RESET OWN PORT on `q` or by RESET PORT on P0, is answered success (R181). No job of `q` stays in the table: slots,
held count, references and pages are given up; `q`'s queue and waiting completions are empty and its ATTN released, but for REFLOST on P0
(R59, R157). In a sound state each channel of such a job stops with its lane disconnected and its decimation count 0 (R91, entry 19), the
entries of such jobs leave the FIFO and the others keep their order, an abandoned reduction is followed by the next entry, and nothing else
changes (R59, R116); if a channel stopped, the hold is tested and the arbiter decides once (R65, R76). A port above 3 is refused BAD_VALUE. -/
def Obligations.PortReset : Prop :=
  ∀ (s : State) (q : PortNo),
    let own (h : Handle) : Prop := ∃ j, s.jobAt h.slot = some j ∧ s.table[h.slot].gen = h.gen ∧ j.port = q;
    let dropped (x : SetNo) : Nat := s.countJobs fun j => decide (j.port = q ∧ j.limitSet = some x);
    let discarded (u : State) : Prop :=
      u.queues = s.queues.set q ⟨[], [], decide (q = 0) && s.ref.reflost⟩ ∧
      u.held = s.held.set q (s.held[q] - s.countJobs fun j => decide (j.port = q)) ∧
      (∀ x : SetNo, u.limits[x] = { s.limits[x] with references := s.limits[x].references - dropped x }) ∧
      (∀ g : PageNo, ((∃ h, s.pages[g] = some h ∧ own h) → u.pages[g] = none) ∧
        ((∀ h, s.pages[g] = some h → ¬ own h) → u.pages[g] = s.pages[g])) ∧
      (∀ i : SlotNo, ∀ j, s.jobAt i = some j → j.port = q → u.table[i] = ⟨s.table[i].gen + 1, none⟩) ∧
      { u with queues := s.queues, held := s.held, limits := s.limits, pages := s.pages, table := s.table, chans := s.chans,
               xpoint := s.xpoint, lanes := s.lanes, fifo := s.fifo, current := s.current } = s;
    let stopped (u : State) : Prop :=
      (∀ i : SlotNo, (∀ j, s.jobAt i = some j → j.port ≠ q) → u.table[i] = s.table[i] ∨
        ∃ j, s.jobAt i = some j ∧ u.table[i] = ⟨s.table[i].gen, some { j with state := .reducing }⟩ ∧
          u.current = some (s.handleAt i) ∧ s.current ≠ u.current) ∧
      (∀ c : ChannelNo, (∀ h, s.chans[c].job = some h → ¬ own h) → u.chans[c] = s.chans[c] ∧ u.xpoint[c] = s.xpoint[c]) ∧
      (∀ (c : ChannelNo) (h : Handle), s.chans[c].job = some h → own h →
        u.chans[c] = { s.chans[c] with activity := .idle, job := none, timer := none, decimation := 0 } ∧ u.xpoint[c] = .none) ∧
      (∀ k : LaneNo, ((∃ c h, s.lanes[k].connected = some c ∧ s.chans[c].job = some h ∧ own h) →
          u.lanes[k] = { s.lanes[k] with connected := none, qualifier := none }) ∧
        ((∀ c h, s.lanes[k].connected = some c → s.chans[c].job = some h → ¬ own h) → u.lanes[k] = s.lanes[k])) ∧
      ∃ others : List Handle, others.Sublist s.fifo ∧ (∀ h ∈ s.fifo, h ∈ others ↔ ¬ own h) ∧
        ((∀ h, s.current = some h → own h) → u.current = others.head? ∧ u.fifo = others.tail) ∧
        (∀ h, s.current = some h → ¬ own h → u.current = some h ∧ u.fifo = others);
    let reset (t : State) : Prop :=
      ∃ u, discarded u ∧ (s.linksAgree → s.jobsAgree → stopped u) ∧
        ((∃ i j, s.jobAt i = some j ∧ j.port = q ∧ j.state = .acquiring) → t = u.decided) ∧
        ((∀ i j, s.jobAt i = some j → j.port = q → j.state ≠ .acquiring) → t = u);
    (∃ t, s.takes .resetOwnPort 0x0B q [] t .success [] ∧ reset t) ∧
    (∃ t, s.takes .resetPort 0x30 0 [BitVec.ofNat 8 q.val] t .success [] ∧ reset t) ∧
    ∀ b : Byte, 3 < b.toNat → s.refuses .resetPort 0x30 0 [b] .badValue
end

