-- ==== Sys2Proof/Laws/State.lean ====
section
/-! SUPPORT. One lemma for each field of the state and each single-entry update: the updated field, read at an index, and every other
field unchanged. -/

namespace Sys2Proof.Machine

open Sys2Proof

/-- Reading a vector that has one entry replaced. -/
theorem getElem_set_fin {α : Type} {n : Nat} (v : Vector α n) (i j : Fin n) (x : α) :
    (v.set i x)[j] = if i = j then x else v[j] := by
  simp [Vector.getElem_set, Fin.ext_iff]

/-- Reading a vector built from a function of its indices. -/
theorem getElem_ofFn_fin {α : Type} {n : Nat} (f : Fin n → α) (i : Fin n) : (Vector.ofFn f)[i] = f i := by simp

/-! ### setLane -/

section

variable (s : State) (k : LaneNo) (l : Lane)

theorem State.setLane_lanes : (s.setLane k l).lanes = s.lanes.set k l := rfl

@[simp] theorem State.setLane_lanes_get (m : LaneNo) :
    (s.setLane k l).lanes[m] = if k = m then l else s.lanes[m] := getElem_set_fin s.lanes k m l

@[simp] theorem State.setLane_ref : (s.setLane k l).ref = s.ref := rfl
@[simp] theorem State.setLane_fill : (s.setLane k l).fill = s.fill := rfl
@[simp] theorem State.setLane_xpoint : (s.setLane k l).xpoint = s.xpoint := rfl
@[simp] theorem State.setLane_table : (s.setLane k l).table = s.table := rfl
@[simp] theorem State.setLane_seqCounter : (s.setLane k l).seqCounter = s.seqCounter := rfl
@[simp] theorem State.setLane_held : (s.setLane k l).held = s.held := rfl
@[simp] theorem State.setLane_floor : (s.setLane k l).floor = s.floor := rfl
@[simp] theorem State.setLane_profiles : (s.setLane k l).profiles = s.profiles := rfl
@[simp] theorem State.setLane_hold : (s.setLane k l).hold = s.hold := rfl
@[simp] theorem State.setLane_service : (s.setLane k l).service = s.service := rfl
@[simp] theorem State.setLane_chans : (s.setLane k l).chans = s.chans := rfl
@[simp] theorem State.setLane_mem : (s.setLane k l).mem = s.mem := rfl
@[simp] theorem State.setLane_pages : (s.setLane k l).pages = s.pages := rfl
@[simp] theorem State.setLane_windows : (s.setLane k l).windows = s.windows := rfl
@[simp] theorem State.setLane_fifo : (s.setLane k l).fifo = s.fifo := rfl
@[simp] theorem State.setLane_current : (s.setLane k l).current = s.current := rfl
@[simp] theorem State.setLane_limits : (s.setLane k l).limits = s.limits := rfl
@[simp] theorem State.setLane_queues : (s.setLane k l).queues = s.queues := rfl
@[simp] theorem State.setLane_verif : (s.setLane k l).verif = s.verif := rfl
@[simp] theorem State.setLane_ports : (s.setLane k l).ports = s.ports := rfl
@[simp] theorem State.setLane_resetPin : (s.setLane k l).resetPin = s.resetPin := rfl
@[simp] theorem State.setLane_settled : (s.setLane k l).settled = s.settled := rfl
@[simp] theorem State.setLane_draws : (s.setLane k l).draws = s.draws := rfl
@[simp] theorem State.setLane_pending : (s.setLane k l).pending = s.pending := rfl

end

/-! ### setEntry -/

section

variable (s : State) (c : ChannelNo) (e : Entry)

theorem State.setEntry_xpoint : (s.setEntry c e).xpoint = s.xpoint.set c e := rfl

@[simp] theorem State.setEntry_xpoint_get (m : ChannelNo) :
    (s.setEntry c e).xpoint[m] = if c = m then e else s.xpoint[m] := getElem_set_fin s.xpoint c m e

@[simp] theorem State.setEntry_ref : (s.setEntry c e).ref = s.ref := rfl
@[simp] theorem State.setEntry_lanes : (s.setEntry c e).lanes = s.lanes := rfl
@[simp] theorem State.setEntry_fill : (s.setEntry c e).fill = s.fill := rfl
@[simp] theorem State.setEntry_table : (s.setEntry c e).table = s.table := rfl
@[simp] theorem State.setEntry_seqCounter : (s.setEntry c e).seqCounter = s.seqCounter := rfl
@[simp] theorem State.setEntry_held : (s.setEntry c e).held = s.held := rfl
@[simp] theorem State.setEntry_floor : (s.setEntry c e).floor = s.floor := rfl
@[simp] theorem State.setEntry_profiles : (s.setEntry c e).profiles = s.profiles := rfl
@[simp] theorem State.setEntry_hold : (s.setEntry c e).hold = s.hold := rfl
@[simp] theorem State.setEntry_service : (s.setEntry c e).service = s.service := rfl
@[simp] theorem State.setEntry_chans : (s.setEntry c e).chans = s.chans := rfl
@[simp] theorem State.setEntry_mem : (s.setEntry c e).mem = s.mem := rfl
@[simp] theorem State.setEntry_pages : (s.setEntry c e).pages = s.pages := rfl
@[simp] theorem State.setEntry_windows : (s.setEntry c e).windows = s.windows := rfl
@[simp] theorem State.setEntry_fifo : (s.setEntry c e).fifo = s.fifo := rfl
@[simp] theorem State.setEntry_current : (s.setEntry c e).current = s.current := rfl
@[simp] theorem State.setEntry_limits : (s.setEntry c e).limits = s.limits := rfl
@[simp] theorem State.setEntry_queues : (s.setEntry c e).queues = s.queues := rfl
@[simp] theorem State.setEntry_verif : (s.setEntry c e).verif = s.verif := rfl
@[simp] theorem State.setEntry_ports : (s.setEntry c e).ports = s.ports := rfl
@[simp] theorem State.setEntry_resetPin : (s.setEntry c e).resetPin = s.resetPin := rfl
@[simp] theorem State.setEntry_settled : (s.setEntry c e).settled = s.settled := rfl
@[simp] theorem State.setEntry_draws : (s.setEntry c e).draws = s.draws := rfl
@[simp] theorem State.setEntry_pending : (s.setEntry c e).pending = s.pending := rfl

end

/-! ### setChan -/

section

variable (s : State) (c : ChannelNo) (x : Channel)

theorem State.setChan_chans : (s.setChan c x).chans = s.chans.set c x := rfl

@[simp] theorem State.setChan_chans_get (m : ChannelNo) :
    (s.setChan c x).chans[m] = if c = m then x else s.chans[m] := getElem_set_fin s.chans c m x

@[simp] theorem State.setChan_ref : (s.setChan c x).ref = s.ref := rfl
@[simp] theorem State.setChan_lanes : (s.setChan c x).lanes = s.lanes := rfl
@[simp] theorem State.setChan_fill : (s.setChan c x).fill = s.fill := rfl
@[simp] theorem State.setChan_xpoint : (s.setChan c x).xpoint = s.xpoint := rfl
@[simp] theorem State.setChan_table : (s.setChan c x).table = s.table := rfl
@[simp] theorem State.setChan_seqCounter : (s.setChan c x).seqCounter = s.seqCounter := rfl
@[simp] theorem State.setChan_held : (s.setChan c x).held = s.held := rfl
@[simp] theorem State.setChan_floor : (s.setChan c x).floor = s.floor := rfl
@[simp] theorem State.setChan_profiles : (s.setChan c x).profiles = s.profiles := rfl
@[simp] theorem State.setChan_hold : (s.setChan c x).hold = s.hold := rfl
@[simp] theorem State.setChan_service : (s.setChan c x).service = s.service := rfl
@[simp] theorem State.setChan_mem : (s.setChan c x).mem = s.mem := rfl
@[simp] theorem State.setChan_pages : (s.setChan c x).pages = s.pages := rfl
@[simp] theorem State.setChan_windows : (s.setChan c x).windows = s.windows := rfl
@[simp] theorem State.setChan_fifo : (s.setChan c x).fifo = s.fifo := rfl
@[simp] theorem State.setChan_current : (s.setChan c x).current = s.current := rfl
@[simp] theorem State.setChan_limits : (s.setChan c x).limits = s.limits := rfl
@[simp] theorem State.setChan_queues : (s.setChan c x).queues = s.queues := rfl
@[simp] theorem State.setChan_verif : (s.setChan c x).verif = s.verif := rfl
@[simp] theorem State.setChan_ports : (s.setChan c x).ports = s.ports := rfl
@[simp] theorem State.setChan_resetPin : (s.setChan c x).resetPin = s.resetPin := rfl
@[simp] theorem State.setChan_settled : (s.setChan c x).settled = s.settled := rfl
@[simp] theorem State.setChan_draws : (s.setChan c x).draws = s.draws := rfl
@[simp] theorem State.setChan_pending : (s.setChan c x).pending = s.pending := rfl

end

/-! ### setService -/

section

variable (s : State) (c : ChannelNo) (x : Service)

theorem State.setService_service : (s.setService c x).service = s.service.set c x := rfl

@[simp] theorem State.setService_service_get (m : ChannelNo) :
    (s.setService c x).service[m] = if c = m then x else s.service[m] := getElem_set_fin s.service c m x

@[simp] theorem State.setService_ref : (s.setService c x).ref = s.ref := rfl
@[simp] theorem State.setService_lanes : (s.setService c x).lanes = s.lanes := rfl
@[simp] theorem State.setService_fill : (s.setService c x).fill = s.fill := rfl
@[simp] theorem State.setService_xpoint : (s.setService c x).xpoint = s.xpoint := rfl
@[simp] theorem State.setService_table : (s.setService c x).table = s.table := rfl
@[simp] theorem State.setService_seqCounter : (s.setService c x).seqCounter = s.seqCounter := rfl
@[simp] theorem State.setService_held : (s.setService c x).held = s.held := rfl
@[simp] theorem State.setService_floor : (s.setService c x).floor = s.floor := rfl
@[simp] theorem State.setService_profiles : (s.setService c x).profiles = s.profiles := rfl
@[simp] theorem State.setService_hold : (s.setService c x).hold = s.hold := rfl
@[simp] theorem State.setService_chans : (s.setService c x).chans = s.chans := rfl
@[simp] theorem State.setService_mem : (s.setService c x).mem = s.mem := rfl
@[simp] theorem State.setService_pages : (s.setService c x).pages = s.pages := rfl
@[simp] theorem State.setService_windows : (s.setService c x).windows = s.windows := rfl
@[simp] theorem State.setService_fifo : (s.setService c x).fifo = s.fifo := rfl
@[simp] theorem State.setService_current : (s.setService c x).current = s.current := rfl
@[simp] theorem State.setService_limits : (s.setService c x).limits = s.limits := rfl
@[simp] theorem State.setService_queues : (s.setService c x).queues = s.queues := rfl
@[simp] theorem State.setService_verif : (s.setService c x).verif = s.verif := rfl
@[simp] theorem State.setService_ports : (s.setService c x).ports = s.ports := rfl
@[simp] theorem State.setService_resetPin : (s.setService c x).resetPin = s.resetPin := rfl
@[simp] theorem State.setService_settled : (s.setService c x).settled = s.settled := rfl
@[simp] theorem State.setService_draws : (s.setService c x).draws = s.draws := rfl
@[simp] theorem State.setService_pending : (s.setService c x).pending = s.pending := rfl

end

/-! ### setSlot -/

section

variable (s : State) (i : SlotNo) (x : Slot)

theorem State.setSlot_table : (s.setSlot i x).table = s.table.set i x := rfl

@[simp] theorem State.setSlot_table_get (m : SlotNo) :
    (s.setSlot i x).table[m] = if i = m then x else s.table[m] := getElem_set_fin s.table i m x

@[simp] theorem State.setSlot_ref : (s.setSlot i x).ref = s.ref := rfl
@[simp] theorem State.setSlot_lanes : (s.setSlot i x).lanes = s.lanes := rfl
@[simp] theorem State.setSlot_fill : (s.setSlot i x).fill = s.fill := rfl
@[simp] theorem State.setSlot_xpoint : (s.setSlot i x).xpoint = s.xpoint := rfl
@[simp] theorem State.setSlot_seqCounter : (s.setSlot i x).seqCounter = s.seqCounter := rfl
@[simp] theorem State.setSlot_held : (s.setSlot i x).held = s.held := rfl
@[simp] theorem State.setSlot_floor : (s.setSlot i x).floor = s.floor := rfl
@[simp] theorem State.setSlot_profiles : (s.setSlot i x).profiles = s.profiles := rfl
@[simp] theorem State.setSlot_hold : (s.setSlot i x).hold = s.hold := rfl
@[simp] theorem State.setSlot_service : (s.setSlot i x).service = s.service := rfl
@[simp] theorem State.setSlot_chans : (s.setSlot i x).chans = s.chans := rfl
@[simp] theorem State.setSlot_mem : (s.setSlot i x).mem = s.mem := rfl
@[simp] theorem State.setSlot_pages : (s.setSlot i x).pages = s.pages := rfl
@[simp] theorem State.setSlot_windows : (s.setSlot i x).windows = s.windows := rfl
@[simp] theorem State.setSlot_fifo : (s.setSlot i x).fifo = s.fifo := rfl
@[simp] theorem State.setSlot_current : (s.setSlot i x).current = s.current := rfl
@[simp] theorem State.setSlot_limits : (s.setSlot i x).limits = s.limits := rfl
@[simp] theorem State.setSlot_queues : (s.setSlot i x).queues = s.queues := rfl
@[simp] theorem State.setSlot_verif : (s.setSlot i x).verif = s.verif := rfl
@[simp] theorem State.setSlot_ports : (s.setSlot i x).ports = s.ports := rfl
@[simp] theorem State.setSlot_resetPin : (s.setSlot i x).resetPin = s.resetPin := rfl
@[simp] theorem State.setSlot_settled : (s.setSlot i x).settled = s.settled := rfl
@[simp] theorem State.setSlot_draws : (s.setSlot i x).draws = s.draws := rfl
@[simp] theorem State.setSlot_pending : (s.setSlot i x).pending = s.pending := rfl

end

/-! ### setHeld -/

section

variable (s : State) (p : PortNo) (n : Nat)

theorem State.setHeld_held : (s.setHeld p n).held = s.held.set p n := rfl

@[simp] theorem State.setHeld_held_get (m : PortNo) :
    (s.setHeld p n).held[m] = if p = m then n else s.held[m] := getElem_set_fin s.held p m n

@[simp] theorem State.setHeld_ref : (s.setHeld p n).ref = s.ref := rfl
@[simp] theorem State.setHeld_lanes : (s.setHeld p n).lanes = s.lanes := rfl
@[simp] theorem State.setHeld_fill : (s.setHeld p n).fill = s.fill := rfl
@[simp] theorem State.setHeld_xpoint : (s.setHeld p n).xpoint = s.xpoint := rfl
@[simp] theorem State.setHeld_table : (s.setHeld p n).table = s.table := rfl
@[simp] theorem State.setHeld_seqCounter : (s.setHeld p n).seqCounter = s.seqCounter := rfl
@[simp] theorem State.setHeld_floor : (s.setHeld p n).floor = s.floor := rfl
@[simp] theorem State.setHeld_profiles : (s.setHeld p n).profiles = s.profiles := rfl
@[simp] theorem State.setHeld_hold : (s.setHeld p n).hold = s.hold := rfl
@[simp] theorem State.setHeld_service : (s.setHeld p n).service = s.service := rfl
@[simp] theorem State.setHeld_chans : (s.setHeld p n).chans = s.chans := rfl
@[simp] theorem State.setHeld_mem : (s.setHeld p n).mem = s.mem := rfl
@[simp] theorem State.setHeld_pages : (s.setHeld p n).pages = s.pages := rfl
@[simp] theorem State.setHeld_windows : (s.setHeld p n).windows = s.windows := rfl
@[simp] theorem State.setHeld_fifo : (s.setHeld p n).fifo = s.fifo := rfl
@[simp] theorem State.setHeld_current : (s.setHeld p n).current = s.current := rfl
@[simp] theorem State.setHeld_limits : (s.setHeld p n).limits = s.limits := rfl
@[simp] theorem State.setHeld_queues : (s.setHeld p n).queues = s.queues := rfl
@[simp] theorem State.setHeld_verif : (s.setHeld p n).verif = s.verif := rfl
@[simp] theorem State.setHeld_ports : (s.setHeld p n).ports = s.ports := rfl
@[simp] theorem State.setHeld_resetPin : (s.setHeld p n).resetPin = s.resetPin := rfl
@[simp] theorem State.setHeld_settled : (s.setHeld p n).settled = s.settled := rfl
@[simp] theorem State.setHeld_draws : (s.setHeld p n).draws = s.draws := rfl
@[simp] theorem State.setHeld_pending : (s.setHeld p n).pending = s.pending := rfl

end

/-! ### setLimit -/

section

variable (s : State) (x : SetNo) (l : LimitSet)

theorem State.setLimit_limits : (s.setLimit x l).limits = s.limits.set x l := rfl

@[simp] theorem State.setLimit_limits_get (m : SetNo) :
    (s.setLimit x l).limits[m] = if x = m then l else s.limits[m] := getElem_set_fin s.limits x m l

@[simp] theorem State.setLimit_ref : (s.setLimit x l).ref = s.ref := rfl
@[simp] theorem State.setLimit_lanes : (s.setLimit x l).lanes = s.lanes := rfl
@[simp] theorem State.setLimit_fill : (s.setLimit x l).fill = s.fill := rfl
@[simp] theorem State.setLimit_xpoint : (s.setLimit x l).xpoint = s.xpoint := rfl
@[simp] theorem State.setLimit_table : (s.setLimit x l).table = s.table := rfl
@[simp] theorem State.setLimit_seqCounter : (s.setLimit x l).seqCounter = s.seqCounter := rfl
@[simp] theorem State.setLimit_held : (s.setLimit x l).held = s.held := rfl
@[simp] theorem State.setLimit_floor : (s.setLimit x l).floor = s.floor := rfl
@[simp] theorem State.setLimit_profiles : (s.setLimit x l).profiles = s.profiles := rfl
@[simp] theorem State.setLimit_hold : (s.setLimit x l).hold = s.hold := rfl
@[simp] theorem State.setLimit_service : (s.setLimit x l).service = s.service := rfl
@[simp] theorem State.setLimit_chans : (s.setLimit x l).chans = s.chans := rfl
@[simp] theorem State.setLimit_mem : (s.setLimit x l).mem = s.mem := rfl
@[simp] theorem State.setLimit_pages : (s.setLimit x l).pages = s.pages := rfl
@[simp] theorem State.setLimit_windows : (s.setLimit x l).windows = s.windows := rfl
@[simp] theorem State.setLimit_fifo : (s.setLimit x l).fifo = s.fifo := rfl
@[simp] theorem State.setLimit_current : (s.setLimit x l).current = s.current := rfl
@[simp] theorem State.setLimit_queues : (s.setLimit x l).queues = s.queues := rfl
@[simp] theorem State.setLimit_verif : (s.setLimit x l).verif = s.verif := rfl
@[simp] theorem State.setLimit_ports : (s.setLimit x l).ports = s.ports := rfl
@[simp] theorem State.setLimit_resetPin : (s.setLimit x l).resetPin = s.resetPin := rfl
@[simp] theorem State.setLimit_settled : (s.setLimit x l).settled = s.settled := rfl
@[simp] theorem State.setLimit_draws : (s.setLimit x l).draws = s.draws := rfl
@[simp] theorem State.setLimit_pending : (s.setLimit x l).pending = s.pending := rfl

end

/-! ### setQueue -/

section

variable (s : State) (p : PortNo) (q : PortQueue)

theorem State.setQueue_queues : (s.setQueue p q).queues = s.queues.set p q := rfl

@[simp] theorem State.setQueue_queues_get (m : PortNo) :
    (s.setQueue p q).queues[m] = if p = m then q else s.queues[m] := getElem_set_fin s.queues p m q

@[simp] theorem State.setQueue_ref : (s.setQueue p q).ref = s.ref := rfl
@[simp] theorem State.setQueue_lanes : (s.setQueue p q).lanes = s.lanes := rfl
@[simp] theorem State.setQueue_fill : (s.setQueue p q).fill = s.fill := rfl
@[simp] theorem State.setQueue_xpoint : (s.setQueue p q).xpoint = s.xpoint := rfl
@[simp] theorem State.setQueue_table : (s.setQueue p q).table = s.table := rfl
@[simp] theorem State.setQueue_seqCounter : (s.setQueue p q).seqCounter = s.seqCounter := rfl
@[simp] theorem State.setQueue_held : (s.setQueue p q).held = s.held := rfl
@[simp] theorem State.setQueue_floor : (s.setQueue p q).floor = s.floor := rfl
@[simp] theorem State.setQueue_profiles : (s.setQueue p q).profiles = s.profiles := rfl
@[simp] theorem State.setQueue_hold : (s.setQueue p q).hold = s.hold := rfl
@[simp] theorem State.setQueue_service : (s.setQueue p q).service = s.service := rfl
@[simp] theorem State.setQueue_chans : (s.setQueue p q).chans = s.chans := rfl
@[simp] theorem State.setQueue_mem : (s.setQueue p q).mem = s.mem := rfl
@[simp] theorem State.setQueue_pages : (s.setQueue p q).pages = s.pages := rfl
@[simp] theorem State.setQueue_windows : (s.setQueue p q).windows = s.windows := rfl
@[simp] theorem State.setQueue_fifo : (s.setQueue p q).fifo = s.fifo := rfl
@[simp] theorem State.setQueue_current : (s.setQueue p q).current = s.current := rfl
@[simp] theorem State.setQueue_limits : (s.setQueue p q).limits = s.limits := rfl
@[simp] theorem State.setQueue_verif : (s.setQueue p q).verif = s.verif := rfl
@[simp] theorem State.setQueue_ports : (s.setQueue p q).ports = s.ports := rfl
@[simp] theorem State.setQueue_resetPin : (s.setQueue p q).resetPin = s.resetPin := rfl
@[simp] theorem State.setQueue_settled : (s.setQueue p q).settled = s.settled := rfl
@[simp] theorem State.setQueue_draws : (s.setQueue p q).draws = s.draws := rfl
@[simp] theorem State.setQueue_pending : (s.setQueue p q).pending = s.pending := rfl

end

/-! ### setPort -/

section

variable (s : State) (p : PortNo) (f : PortFrame)

theorem State.setPort_ports : (s.setPort p f).ports = s.ports.set p f := rfl

@[simp] theorem State.setPort_ports_get (m : PortNo) :
    (s.setPort p f).ports[m] = if p = m then f else s.ports[m] := getElem_set_fin s.ports p m f

@[simp] theorem State.setPort_ref : (s.setPort p f).ref = s.ref := rfl
@[simp] theorem State.setPort_lanes : (s.setPort p f).lanes = s.lanes := rfl
@[simp] theorem State.setPort_fill : (s.setPort p f).fill = s.fill := rfl
@[simp] theorem State.setPort_xpoint : (s.setPort p f).xpoint = s.xpoint := rfl
@[simp] theorem State.setPort_table : (s.setPort p f).table = s.table := rfl
@[simp] theorem State.setPort_seqCounter : (s.setPort p f).seqCounter = s.seqCounter := rfl
@[simp] theorem State.setPort_held : (s.setPort p f).held = s.held := rfl
@[simp] theorem State.setPort_floor : (s.setPort p f).floor = s.floor := rfl
@[simp] theorem State.setPort_profiles : (s.setPort p f).profiles = s.profiles := rfl
@[simp] theorem State.setPort_hold : (s.setPort p f).hold = s.hold := rfl
@[simp] theorem State.setPort_service : (s.setPort p f).service = s.service := rfl
@[simp] theorem State.setPort_chans : (s.setPort p f).chans = s.chans := rfl
@[simp] theorem State.setPort_mem : (s.setPort p f).mem = s.mem := rfl
@[simp] theorem State.setPort_pages : (s.setPort p f).pages = s.pages := rfl
@[simp] theorem State.setPort_windows : (s.setPort p f).windows = s.windows := rfl
@[simp] theorem State.setPort_fifo : (s.setPort p f).fifo = s.fifo := rfl
@[simp] theorem State.setPort_current : (s.setPort p f).current = s.current := rfl
@[simp] theorem State.setPort_limits : (s.setPort p f).limits = s.limits := rfl
@[simp] theorem State.setPort_queues : (s.setPort p f).queues = s.queues := rfl
@[simp] theorem State.setPort_verif : (s.setPort p f).verif = s.verif := rfl
@[simp] theorem State.setPort_resetPin : (s.setPort p f).resetPin = s.resetPin := rfl
@[simp] theorem State.setPort_settled : (s.setPort p f).settled = s.settled := rfl
@[simp] theorem State.setPort_draws : (s.setPort p f).draws = s.draws := rfl
@[simp] theorem State.setPort_pending : (s.setPort p f).pending = s.pending := rfl

end

end Sys2Proof.Machine
end

