-- ==== Sys2Proof/Laws/Clock.lean ====
section
/-! SUPPORT. What the idle step can do, said once: due events taken one after another, a coarse clock edge, what it makes due; and the
three cases of a filter brought to an instant. -/

namespace Sys2Proof.Machine

open Sys2Proof

/-! ### Events taken one after another -/

@[simp] theorem andThen_next (s : State) (f : State → Host.Outcome State Fault Refusal) : andThen (.next s) f = f s := rfl

/-- A meaning that goes on from another answers a next state exactly when both do. -/
theorem andThen_eq_next {o : Host.Outcome State Fault Refusal} {f : State → Host.Outcome State Fault Refusal} {t : State} :
    andThen o f = .next t ↔ ∃ u, o = .next u ∧ f u = .next t := by
  cases o with
  | next u => exact ⟨fun h => ⟨u, rfl, h⟩, fun ⟨_, hu, ht⟩ => by cases hu; exact ht⟩
  | fault e => exact ⟨fun h => (by cases h), fun ⟨_, hu, _⟩ => (by cases hu)⟩
  | refused e => exact ⟨fun h => (by cases h), fun ⟨_, hu, _⟩ => (by cases hu)⟩

@[simp] theorem runAll_nil (s : State) : runAll [] s = .next s := rfl

/-- The first event gives a next state at its place, and the others run on from it. -/
theorem runAll_cons {e : DueEvent} {r : List DueEvent} {s t : State} (h : runAll (e :: r) s = .next t) :
    ∃ u, e.2.take (s.reach (BitVec.ofNat 16 e.1)) = .next u ∧ runAll r u = .next t := andThen_eq_next.mp h

/-- What every event of a list, and the passing of time within the period, keep, the list keeps. -/
theorem runAll_keeps {P : State → Prop} (reach : ∀ s fine, P s → P (s.reach fine)) {l : List DueEvent}
    (keeps : ∀ e ∈ l, ∀ s t, e.2.take s = .next t → P s → P t) {s t : State} (h : runAll l s = .next t) (hs : P s) : P t := by
  induction l generalizing s with
  | nil => cases h; exact hs
  | cons e r ih =>
    obtain ⟨u, hu, ht⟩ := runAll_cons h
    exact ih (fun d hd => keeps d (List.mem_cons_of_mem e hd)) ht (keeps e List.mem_cons_self _ u hu (reach s _ hs))

/-! ### The passing of time within a coarse period -/

/-- With nothing due before a place the period runs on to it, and that is all. -/
theorem State.passTo_quiet {s : State} {place : Fine} (h : ∀ e ∈ s.due, place.toNat ≤ e.1) : s.passTo place = .next (s.reach place) := by
  have none : (s.due.filter fun e => e.1 < place.toNat) = [] :=
    List.filter_eq_nil_iff.mpr fun e he => by simpa using h e he
  rw [State.passTo, none, runAll_nil, andThen_next]

/-- Everything that the passing of time to a place has done. -/
theorem State.passTo_next {s t : State} {place : Fine} (h : s.passTo place = .next t) :
    ∃ u, runAll (s.due.filter fun e => e.1 < place.toNat) s = .next u ∧ t = u.reach place := by
  obtain ⟨u, hu, ht⟩ := andThen_eq_next.mp h
  cases ht
  exact ⟨u, hu, rfl⟩

/-- What every due event and the passing of time within the period keep, running on to a place keeps. -/
theorem State.passTo_keeps {P : State → Prop} (reach : ∀ s fine, P s → P (s.reach fine)) {s t : State} {place : Fine}
    (keeps : ∀ e ∈ s.due, ∀ s t, e.2.take s = .next t → P s → P t) (h : s.passTo place = .next t) (hs : P s) : P t := by
  obtain ⟨u, hu, rfl⟩ := State.passTo_next h
  exact reach u place (runAll_keeps reach (fun e he => keeps e (List.mem_of_mem_filter he)) hu hs)

/-! ### The idle step -/

/-- Everything that an idle step which gives a next state has done. -/
theorem State.idle_next {s t : State} (h : s.idle = .next t) :
    ∃ u, runAll s.due s = .next u ∧ runAll u.tick.ref.dueAtEdge u.tick = .next t := andThen_eq_next.mp h

/-- What every event, the passing of time within the period and the coarse clock edge keep, an idle step keeps. -/
theorem State.idle_keeps {P : State → Prop} (keeps : ∀ (e : TimedEvent) s t, e.take s = .next t → P s → P t)
    (reach : ∀ s fine, P s → P (s.reach fine)) (tick : ∀ s : State, P s → P s.tick) {s t : State} (h : s.idle = .next t) (hs : P s) :
    P t := by
  obtain ⟨u, hu, ht⟩ := State.idle_next h
  exact runAll_keeps reach (fun e _ => keeps e.2) ht (tick u (runAll_keeps reach (fun e _ => keeps e.2) hu hs))

/-- An idle step ends at the beginning of a coarse period. -/
theorem State.idle_fine {s t : State} (h : s.idle = .next t) : t.ref.fine = 0 := by
  obtain ⟨u, -, ht⟩ := State.idle_next h
  rw [RefMonitor.dueAtEdge] at ht
  split at ht
  · obtain ⟨v, hv, hw⟩ := runAll_cons ht
    cases hw
    cases hv
    rw [State.lineTimeAdvances]
    split <;> rfl
  · cases ht
    rfl

/-- A coarse clock edge makes at most an advance of line time due. -/
theorem RefMonitor.mem_dueAtEdge {r : RefMonitor} {e : DueEvent} (h : e ∈ r.dueAtEdge) :
    e = (0, .lineTime) ∧ r.state = .locked ∧ Config.accumulatorFull ≤ r.accumulator := by
  unfold RefMonitor.dueAtEdge at h
  split at h
  · exact ⟨List.mem_singleton.mp h, ‹_›⟩
  · cases h

/-! ### The absence detector (R6) -/

@[simp] theorem RefMonitor.startDetector_absenceEnd (r : RefMonitor) (fine : Fine) :
    (r.startDetector fine).absenceEnd = Config.absenceLatest + fine.toNat := rfl
@[simp] theorem RefMonitor.startDetector_state (r : RefMonitor) (fine : Fine) : (r.startDetector fine).state = r.state := rfl
@[simp] theorem RefMonitor.startDetector_reflost (r : RefMonitor) (fine : Fine) : (r.startDetector fine).reflost = r.reflost := rfl
@[simp] theorem RefMonitor.startDetector_source (r : RefMonitor) (fine : Fine) : (r.startDetector fine).source = r.source := rfl
@[simp] theorem RefMonitor.startDetector_accumulator (r : RefMonitor) (fine : Fine) :
    (r.startDetector fine).accumulator = r.accumulator := rfl
@[simp] theorem RefMonitor.startDetector_counter (r : RefMonitor) (fine : Fine) :
    (r.startDetector fine).counter = r.counter := rfl
@[simp] theorem RefMonitor.startDetector_qualified (r : RefMonitor) (fine : Fine) :
    (r.startDetector fine).qualified = r.qualified := rfl

@[simp] theorem RefMonitor.startDetector_rcEnd (r : RefMonitor) (fine : Fine) : (r.startDetector fine).rcEnd = r.rcEnd := rfl

/-- A detector that has just started cannot expire in the same coarse period. -/
theorem RefMonitor.mayExpire_startDetector (r : RefMonitor) (start : Fine) : (r.startDetector start).mayExpire = false := by
  refine decide_eq_false ?_
  rw [RefMonitor.startDetector_absenceEnd, absenceRange, Config.absenceLatest, Config.absenceEarliest, Config.ticksPerCoarse]
  omega

/-- Where a timer of the RC oscillator may end it ends within its range. -/
theorem rcEndPlace_inRange {present : Fine} {latest range : Nat} (h : rcMayEnd latest range = true) :
    latest ≤ (rcEndPlace present latest range).toNat + range ∧ (rcEndPlace present latest range).toNat ≤ latest := by
  have fits := present.isLt
  have ends := of_decide_eq_true h
  rw [Config.ticksPerCoarse] at ends
  have place : (rcEndPlace present latest range).toNat = min (max present.toNat (latest - range)) latest := by
    rw [rcEndPlace, BitVec.toNat_ofNat]
    exact Nat.mod_eq_of_lt (by omega)
  rw [place]
  omega

/-- An expiry comes 392 to 408 ns after the detector's start. -/
theorem RefMonitor.expiryPlace_inRange {r : RefMonitor} (h : r.mayExpire = true) :
    r.absenceEnd ≤ r.expiryPlace.toNat + absenceRange ∧ r.expiryPlace.toNat ≤ r.absenceEnd := rcEndPlace_inRange h

/-- The expiry that the clock takes comes at the detector's latest end, where it may. -/
theorem RefMonitor.mem_dueAbsence {r : RefMonitor} {e : DueEvent} (h : e ∈ r.dueAbsence) :
    e = (r.absenceEnd, .absence) ∧ r.mayExpire = true := by
  unfold RefMonitor.dueAbsence at h
  split at h
  · exact ⟨List.mem_singleton.mp h, decide_eq_true (Nat.lt_of_lt_of_le ‹_› (Nat.le_add_left _ _))⟩
  · cases h

/-! ### The RC divider (R5) -/

@[simp] theorem RefMonitor.startUnit_rcEnd (r : RefMonitor) (fine : Fine) : (r.startUnit fine).rcEnd = Config.rcUnitLatest + fine.toNat := rfl
@[simp] theorem RefMonitor.startUnit_state (r : RefMonitor) (fine : Fine) : (r.startUnit fine).state = r.state := rfl
@[simp] theorem RefMonitor.startUnit_reflost (r : RefMonitor) (fine : Fine) : (r.startUnit fine).reflost = r.reflost := rfl
@[simp] theorem RefMonitor.startUnit_source (r : RefMonitor) (fine : Fine) : (r.startUnit fine).source = r.source := rfl
@[simp] theorem RefMonitor.startUnit_accumulator (r : RefMonitor) (fine : Fine) : (r.startUnit fine).accumulator = r.accumulator := rfl
@[simp] theorem RefMonitor.startUnit_counter (r : RefMonitor) (fine : Fine) : (r.startUnit fine).counter = r.counter := rfl
@[simp] theorem RefMonitor.startUnit_qualified (r : RefMonitor) (fine : Fine) : (r.startUnit fine).qualified = r.qualified := rfl
@[simp] theorem RefMonitor.startUnit_absenceEnd (r : RefMonitor) (fine : Fine) : (r.startUnit fine).absenceEnd = r.absenceEnd := rfl

/-- A unit that has just begun cannot end in the same coarse period. -/
theorem RefMonitor.mayAdvance_startUnit (r : RefMonitor) (start : Fine) : (r.startUnit start).mayAdvance = false := by
  refine Bool.and_eq_false_iff.mpr (.inr (decide_eq_false ?_))
  rw [RefMonitor.startUnit_rcEnd, rcUnitRange, Config.rcUnitLatest, Config.rcUnitEarliest, Config.ticksPerCoarse]
  omega

/-- A unit ends 0.98 to 1.02 / 1024 s after it began. -/
theorem RefMonitor.unitPlace_inRange {r : RefMonitor} (h : r.mayAdvance = true) :
    r.rcEnd ≤ r.unitPlace.toNat + rcUnitRange ∧ r.unitPlace.toNat ≤ r.rcEnd := rcEndPlace_inRange (Bool.and_eq_true_iff.mp h).2

/-- The advance that the clock takes comes at the unit's latest end, outside LOCKED. -/
theorem RefMonitor.mem_dueUnit {r : RefMonitor} {e : DueEvent} (h : e ∈ r.dueUnit) :
    e = (r.rcEnd, .rcLineTime) ∧ r.state ≠ .locked ∧ r.rcEnd < Config.ticksPerCoarse := by
  unfold RefMonitor.dueUnit at h
  split at h
  · exact ⟨List.mem_singleton.mp h, ‹_›⟩
  · cases h

/-! ### A filter brought to an instant (R21) -/

/-- Without a measured phase nothing is left to decide. -/
@[simp] theorem Qualifier.settle_of_none {q : Qualifier} (h : q.phaseStart = none) (level : Bool) (t : Timestamp) :
    q.settle level t = q := by
  rw [Qualifier.settle, h]

/-- A phase shorter than the width leaves the filter as it is. -/
theorem Qualifier.settle_of_lt {q : Qualifier} {start t : Timestamp} (h : q.phaseStart = some start)
    (short : ticksBetween start t < q.width) (level : Bool) : q.settle level t = q := by
  rw [Qualifier.settle, h]
  exact if_neg (Nat.not_le_of_lt short)

/-- A phase of the full width gives its level to the output and is not measured any more. -/
theorem Qualifier.settle_of_le {q : Qualifier} {start t : Timestamp} (h : q.phaseStart = some start)
    (long : q.width ≤ ticksBetween start t) (level : Bool) :
    (q.settle level t).output = level ∧ (q.settle level t).phaseStart = none ∧
      (q.settle level t).emitted = if q.output ≠ level ∧ level = q.edge.level
        then q.emitted ++ [start + BitVec.ofNat 48 q.width] else q.emitted := by
  rw [Qualifier.settle, h]
  simp [long]

@[simp] theorem Qualifier.settle_edge (q : Qualifier) (level : Bool) (t : Timestamp) : (q.settle level t).edge = q.edge := by
  unfold Qualifier.settle
  split
  · rfl
  · split <;> rfl

@[simp] theorem Qualifier.settle_filter (q : Qualifier) (level : Bool) (t : Timestamp) : (q.settle level t).filter = q.filter := by
  unfold Qualifier.settle
  split
  · rfl
  · split <;> rfl

@[simp] theorem Lane.settle_config (l : Lane) (t : Timestamp) : (l.settle t).config = l.config := rfl
@[simp] theorem Lane.settle_connected (l : Lane) (t : Timestamp) : (l.settle t).connected = l.connected := rfl
@[simp] theorem Lane.settle_level (l : Lane) (t : Timestamp) : (l.settle t).level = l.level := rfl
@[simp] theorem Lane.settle_qualifier_isSome (l : Lane) (t : Timestamp) :
    (l.settle t).qualifier.isSome = l.qualifier.isSome := by
  cases h : l.qualifier <;> simp [Lane.settle, h]

end Sys2Proof.Machine
end

