-- ==== Sys2Proof/Laws/Frames.lean ====
section
/-! SUPPORT. What a request frame can do, once: it is ignored, its bytes are kept, it is refused by
the tests of R173, or it is answered by its own rule. -/

namespace Sys2Proof.Machine

open Sys2Proof

/-- Everything that can follow a request that gives a next state. -/
theorem request_next {p : PortNo} {code : Byte} {bytes : List Byte} {s t : State} {run : List Byte → Reply}
    (h : request p code bytes s run = .next t) :
    t = s ∨ t = s.receive p (code :: bytes) ∨ (∃ received status, t = s.answer p received status []) ∨
      ∃ payload, frameState bytes = .whole payload ∧ frameRefusal p code payload = none ∧
        ∃ status body u, run payload = .answer status body u ∧
          t = u.answer p (code :: bytes.take (payload.length + 1)) status body := by
  unfold request at h
  split at h
  · split at h
    · exact .inr (.inl (by simpa using h.symm))
    · exact .inr (.inr (.inl ⟨_, _, by simpa using h.symm⟩))
    · rename_i payload hw
      dsimp only at h
      split at h
      · exact .inr (.inr (.inl ⟨_, _, by simpa using h.symm⟩))
      · rename_i hr
        split at h
        · rename_i st body u hrun
          exact .inr (.inr (.inr ⟨payload, hw, hr, st, body, u, hrun, by simpa using h.symm⟩))
        · simp at h
  · exact .inl (by simpa using h.symm)

/-- A request whose frame is complete and passes the tests of R173 is answered by its own rule. -/
theorem request_answers {p : PortNo} {code : Byte} {bytes payload body : List Byte} {s u : State} {status : Status}
    {run : List Byte → Reply} (hf : s.ports[p].framing = .receiving) (hp : s.ports[p].received <+: code :: bytes)
    (hw : frameState bytes = .whole payload) (hr : frameRefusal p code payload = none)
    (hrun : run payload = .answer status body u) :
    request p code bytes s run = .next (u.answer p (code :: bytes.take (payload.length + 1)) status body) := by
  unfold request
  rw [if_pos ⟨hf, hp⟩, hw]
  dsimp only
  rw [hr]
  dsimp only
  rw [hrun]

/-- A request outside RECEIVING, or one whose bytes do not go on from those received, changes nothing (R172). -/
theorem request_ignored {p : PortNo} {code : Byte} {bytes : List Byte} {s : State} {run : List Byte → Reply}
    (hf : s.ports[p].framing ≠ .receiving ∨ ¬ s.ports[p].received <+: code :: bytes) :
    request p code bytes s run = .next s := by
  unfold request
  rw [if_neg (by tauto)]

/-- The bytes of an unfinished frame are kept, and nothing else changes (R172). -/
theorem request_kept {p : PortNo} {code : Byte} {bytes : List Byte} {s : State} {run : List Byte → Reply}
    (hf : s.ports[p].framing = .receiving) (hp : s.ports[p].received <+: code :: bytes)
    (hw : frameState bytes = .unfinished) : request p code bytes s run = .next (s.receive p (code :: bytes)) := by
  unfold request
  rw [if_pos ⟨hf, hp⟩, hw]

/-- The bytes of a frame that carry a payload of up to 60 bytes make it whole (R173). -/
theorem frameState_whole (payload : List Byte) (h : payload.length ≤ 60) :
    frameState (BitVec.ofNat 8 payload.length :: payload) = .whole payload := by
  have hn : (BitVec.ofNat 8 payload.length).toNat = payload.length := by
    rw [BitVec.toNat_ofNat]; exact Nat.mod_eq_of_lt (by omega)
  simp [frameState, hn, h]

section

variable (s : State) (p : PortNo) (received : List Byte) (status : Status) (body : List Byte)

@[simp] theorem State.answer_ref : (s.answer p received status body).ref = s.ref := rfl
@[simp] theorem State.answer_lanes : (s.answer p received status body).lanes = s.lanes := rfl
@[simp] theorem State.answer_fill : (s.answer p received status body).fill = s.fill := rfl
@[simp] theorem State.answer_xpoint : (s.answer p received status body).xpoint = s.xpoint := rfl
@[simp] theorem State.answer_table : (s.answer p received status body).table = s.table := rfl
@[simp] theorem State.answer_seqCounter : (s.answer p received status body).seqCounter = s.seqCounter := rfl
@[simp] theorem State.answer_held : (s.answer p received status body).held = s.held := rfl
@[simp] theorem State.answer_floor : (s.answer p received status body).floor = s.floor := rfl
@[simp] theorem State.answer_profiles : (s.answer p received status body).profiles = s.profiles := rfl
@[simp] theorem State.answer_hold : (s.answer p received status body).hold = s.hold := rfl
@[simp] theorem State.answer_service : (s.answer p received status body).service = s.service := rfl
@[simp] theorem State.answer_chans : (s.answer p received status body).chans = s.chans := rfl
@[simp] theorem State.answer_mem : (s.answer p received status body).mem = s.mem := rfl
@[simp] theorem State.answer_pages : (s.answer p received status body).pages = s.pages := rfl
@[simp] theorem State.answer_windows : (s.answer p received status body).windows = s.windows := rfl
@[simp] theorem State.answer_fifo : (s.answer p received status body).fifo = s.fifo := rfl
@[simp] theorem State.answer_current : (s.answer p received status body).current = s.current := rfl
@[simp] theorem State.answer_limits : (s.answer p received status body).limits = s.limits := rfl
@[simp] theorem State.answer_queues : (s.answer p received status body).queues = s.queues := rfl
@[simp] theorem State.answer_verif : (s.answer p received status body).verif = s.verif := rfl
@[simp] theorem State.answer_resetPin : (s.answer p received status body).resetPin = s.resetPin := rfl
@[simp] theorem State.answer_settled : (s.answer p received status body).settled = s.settled := rfl
@[simp] theorem State.answer_draws : (s.answer p received status body).draws = s.draws := rfl
@[simp] theorem State.answer_pending : (s.answer p received status body).pending = s.pending := rfl

end

section

variable (s : State) (p : PortNo) (received : List Byte)

@[simp] theorem State.receive_ref : (s.receive p received).ref = s.ref := rfl
@[simp] theorem State.receive_lanes : (s.receive p received).lanes = s.lanes := rfl
@[simp] theorem State.receive_fill : (s.receive p received).fill = s.fill := rfl
@[simp] theorem State.receive_xpoint : (s.receive p received).xpoint = s.xpoint := rfl
@[simp] theorem State.receive_table : (s.receive p received).table = s.table := rfl
@[simp] theorem State.receive_seqCounter : (s.receive p received).seqCounter = s.seqCounter := rfl
@[simp] theorem State.receive_held : (s.receive p received).held = s.held := rfl
@[simp] theorem State.receive_floor : (s.receive p received).floor = s.floor := rfl
@[simp] theorem State.receive_profiles : (s.receive p received).profiles = s.profiles := rfl
@[simp] theorem State.receive_hold : (s.receive p received).hold = s.hold := rfl
@[simp] theorem State.receive_service : (s.receive p received).service = s.service := rfl
@[simp] theorem State.receive_chans : (s.receive p received).chans = s.chans := rfl
@[simp] theorem State.receive_mem : (s.receive p received).mem = s.mem := rfl
@[simp] theorem State.receive_pages : (s.receive p received).pages = s.pages := rfl
@[simp] theorem State.receive_windows : (s.receive p received).windows = s.windows := rfl
@[simp] theorem State.receive_fifo : (s.receive p received).fifo = s.fifo := rfl
@[simp] theorem State.receive_current : (s.receive p received).current = s.current := rfl
@[simp] theorem State.receive_limits : (s.receive p received).limits = s.limits := rfl
@[simp] theorem State.receive_queues : (s.receive p received).queues = s.queues := rfl
@[simp] theorem State.receive_verif : (s.receive p received).verif = s.verif := rfl
@[simp] theorem State.receive_resetPin : (s.receive p received).resetPin = s.resetPin := rfl
@[simp] theorem State.receive_settled : (s.receive p received).settled = s.settled := rfl
@[simp] theorem State.receive_draws : (s.receive p received).draws = s.draws := rfl
@[simp] theorem State.receive_pending : (s.receive p received).pending = s.pending := rfl

end

end Sys2Proof.Machine
end

