-- ==== Sys2Proof/Laws/Memory.lean ====
section
/-! SUPPORT. Sample Memory: what a write does, once, and that every write keeps the canonical form. -/

namespace Sys2Proof.Machine

open Sys2Proof

/-- A word number below every listed one reads 0. -/
theorem Memory.read_below (m : Memory) (a : Nat) (h : ∀ x ∈ m, a < x.1) : m.read a = 0 := by
  induction m with
  | nil => rfl
  | cons x r ih =>
    obtain ⟨b, v⟩ := x
    have hb : a < b := h (b, v) (by simp)
    simp [Memory.read, Nat.ne_of_lt hb, ih fun y hy => h y (by simp [hy])]

/-- A write to one word changes that word alone. -/
theorem Memory.read_write (m : Memory) (a b : Nat) (w : BitVec 48) (hm : m.wf) :
    (m.write a w).read b = if b = a then w else m.read b := by
  obtain ⟨hs, -⟩ := hm
  induction m with
  | nil => by_cases hw : w = 0#48 <;> by_cases hb : b = a <;> simp [Memory.write, Memory.read, hw, hb]
  | cons x r ih =>
    obtain ⟨c, v⟩ := x
    rw [List.pairwise_cons] at hs
    have below : ∀ k, k ≤ c → Memory.read r k = 0#48 := fun k hk => Memory.read_below r k fun y hy => lt_of_le_of_lt hk (hs.1 y hy)
    simp only [Memory.write]
    split
    · rename_i hac
      by_cases hw : w = 0#48 <;> by_cases hb : b = a <;>
        simp_all [Memory.read, Nat.ne_of_lt hac, below a (Nat.le_of_lt hac)]
    · split
      · subst_vars
        by_cases hw : w = 0#48 <;> by_cases hb : b = c <;> simp_all [Memory.read]
      · rename_i h1 h2
        by_cases hb : b = c
        · subst hb; simp [Memory.read, Ne.symm h2]
        · simp [Memory.read, hb, ih hs.2]

/-- Every listed word of the memory after a write was listed or is the word written. -/
theorem Memory.mem_write (m : Memory) (a : Nat) (w : BitVec 48) :
    ∀ x ∈ m.write a w, x ∈ m ∨ (x = (a, w) ∧ w ≠ 0) := by
  induction m with
  | nil => intro x; by_cases hw : w = 0#48 <;> simp [Memory.write, hw]
  | cons y r ih =>
    obtain ⟨c, v⟩ := y
    intro x hx
    simp only [Memory.write] at hx
    split at hx
    · by_cases hw : w = 0#48 <;> simp_all; tauto
    · split at hx
      · by_cases hw : w = 0#48 <;> simp_all; tauto
      · rcases List.mem_cons.mp hx with rfl | h
        · simp
        · rcases ih x h with h | ⟨rfl, hw⟩
          · simp [h]
          · exact .inr ⟨rfl, hw⟩

/-- A write to a word that exists keeps the canonical form. -/
theorem Memory.wf_write (m : Memory) (a : Nat) (w : BitVec 48) (hm : m.wf) (ha : a < Config.memoryWords) :
    (m.write a w).wf := by
  obtain ⟨hs, hb⟩ := hm
  refine ⟨?_, fun x hx => ?_⟩
  · clear hb
    induction m with
    | nil => by_cases hw : w = 0#48 <;> simp [Memory.write, hw]
    | cons y r ih =>
      obtain ⟨c, v⟩ := y
      have hs' := hs
      rw [List.pairwise_cons] at hs
      simp only [Memory.write]
      split
      · rename_i hac
        by_cases hw : w = 0#48
        · simpa [hw] using hs'
        · rw [if_neg (show ¬w = 0 from hw), List.pairwise_cons]
          refine ⟨fun y hy => ?_, hs'⟩
          rcases List.mem_cons.mp hy with rfl | h
          · exact hac
          · exact lt_trans hac (hs.1 y h)
      · split
        · by_cases hw : w = 0#48
          · simp [hw, hs.2]
          · subst_vars; rw [if_neg (show ¬w = 0 from hw)]; exact List.pairwise_cons.mpr hs
        · rename_i h1 h2
          rw [List.pairwise_cons]
          refine ⟨fun y hy => ?_, ih hs.2⟩
          rcases Memory.mem_write r a w y hy with h | ⟨rfl, -⟩
          · exact hs.1 y h
          · change c < a; omega
  · rcases Memory.mem_write m a w x hx with h | ⟨rfl, hw⟩
    · exact hb x h
    · exact ⟨ha, hw⟩

/-- Sample Memory right after reset is in the canonical form. -/
theorem State.reset_mem_wf : State.reset.mem.wf := by decide

end Sys2Proof.Machine
end

