-- ==== Sys2Proof/Laws/Ops.lean ====
section
/-! SUPPORT. The frame of every shared operation, once: which fields it may change, all others being as they were. -/

namespace Sys2Proof.Machine

open Sys2Proof

theorem State.connect_frame (s : State) (c : ChannelNo) (k : LaneNo) :
    ∃ lanes xpoint, s.connect c k = { s with lanes, xpoint } := ⟨_, _, rfl⟩

theorem State.disconnect_frame (s : State) (c : ChannelNo) :
    ∃ lanes xpoint, s.disconnect c = { s with lanes, xpoint } := by
  unfold State.disconnect
  split <;> exact ⟨_, _, rfl⟩

theorem State.stopChannel_frame (s : State) (c : ChannelNo) :
    ∃ lanes xpoint chans, s.stopChannel c = { s with lanes, xpoint, chans } := by
  obtain ⟨l, x, h⟩ := s.disconnect_frame c
  exact ⟨l, x, _, by rw [State.stopChannel, h]; rfl⟩

theorem State.cutChannel_frame (s : State) (c : ChannelNo) :
    ∃ lanes xpoint chans, s.cutChannel c = { s with lanes, xpoint, chans } := by
  obtain ⟨l, x, h⟩ := s.disconnect_frame c
  exact ⟨l, x, _, by rw [State.cutChannel, h]; rfl⟩

theorem State.grant_frame (s : State) (c : ChannelNo) (i : SlotNo) (j : Job) :
    ∃ lanes xpoint table chans, s.grant c i j = { s with lanes, xpoint, table, chans } := ⟨_, _, _, _, rfl⟩

theorem State.arbitrateUpTo_frame (n : Nat) (s : State) :
    ∃ lanes xpoint table chans, State.arbitrateUpTo n s = { s with lanes, xpoint, table, chans } := by
  induction n generalizing s with
  | zero => exact ⟨_, _, _, _, rfl⟩
  | succ n ih =>
    unfold State.arbitrateUpTo
    split
    · rename_i c i j _ _
      obtain ⟨l, x, t, ch, h⟩ := ih (s.grant c i j)
      exact ⟨l, x, t, ch, by rw [h]; rfl⟩
    · exact ⟨_, _, _, _, rfl⟩

theorem State.arbitrate_frame (s : State) :
    ∃ lanes xpoint table chans, s.arbitrate = { s with lanes, xpoint, table, chans } := State.arbitrateUpTo_frame 4 s

theorem State.testHold_frame (s : State) :
    ∃ hold, s.testHold = { s with hold } := by
  unfold State.testHold
  split <;> exact ⟨_, rfl⟩

theorem State.afterAcquisition_frame (s : State) :
    ∃ lanes xpoint table hold chans, s.afterAcquisition = { s with lanes, xpoint, table, hold, chans } := by
  obtain ⟨d, h⟩ := s.testHold_frame
  obtain ⟨l, x, t, c, h'⟩ := s.testHold.arbitrate_frame
  exact ⟨l, x, t, d, c, by rw [State.afterAcquisition, h', h]⟩

theorem State.dropReference_frame (s : State) (o : Option SetNo) :
    ∃ limits, s.dropReference o = { s with limits } := by
  cases o <;> exact ⟨_, rfl⟩

theorem State.addReference_frame (s : State) (o : Option SetNo) :
    ∃ limits, s.addReference o = { s with limits } := by
  cases o <;> exact ⟨_, rfl⟩

theorem State.retire_frame (s : State) (i : SlotNo) (j : Job) :
    ∃ table held limits, s.retire i j = { s with table, held, limits } := by
  obtain ⟨l, h⟩ := (s.setSlot i ⟨s.table[i].gen + 1, none⟩).dropReference_frame j.limitSet
  exact ⟨_, _, l, by rw [State.retire, h]; rfl⟩

theorem State.enterRecord_frame (s : State) (p : PortNo) (r : Record) :
    ∃ queues, s.enterRecord p r = { s with queues } := ⟨_, rfl⟩

theorem State.enterJob_frame (s : State) (p : PortNo) (i : SlotNo) (j : Job) :
    ∃ table held limits queues, s.enterJob p i j = { s with table, held, limits, queues } := by
  obtain ⟨t, e, l, h⟩ := (s.enterRecord p (.job (s.handleAt i) j s.ref.lineTime (timeDegraded s.ref))).retire_frame i j
  exact ⟨t, e, l, _, by rw [State.enterJob, h]; rfl⟩

theorem State.offerJob_frame (s : State) (i : SlotNo) (j : Job) :
    ∃ table held limits queues, s.offerJob i j = { s with table, held, limits, queues } := by
  unfold State.offerJob
  split
  · exact s.enterJob_frame j.port i j
  · exact ⟨_, _, _, _, rfl⟩

theorem State.offerService_frame (s : State) (r : ServiceReport) :
    ∃ queues, s.offerService r = { s with queues } := by
  unfold State.offerService
  split <;> exact ⟨_, rfl⟩

theorem State.admitWaiting_frame (s : State) (p : PortNo) (w : List Waiting) :
    ∃ table held limits queues, s.admitWaiting p w = { s with table, held, limits, queues } := by
  induction w with
  | nil => exact ⟨_, _, _, _, rfl⟩
  | cons x w ih =>
    cases x with
    | service r d => exact ⟨_, _, _, _, rfl⟩
    | job h =>
      unfold State.admitWaiting
      split
      · split
        · rename_i j _ _
          obtain ⟨t, e, l, q, h'⟩ := (s.setWaiting p w).enterJob_frame p h.slot j
          exact ⟨t, e, l, q, h'⟩
        · exact ih
      · exact ih

theorem State.refreshAttn_frame (s : State) (p : PortNo) :
    ∃ queues, s.refreshAttn p = { s with queues } := ⟨_, rfl⟩

theorem State.completeJob_frame (s : State) (i : SlotNo) (o : EndOutcome) (v : Verdict) :
    ∃ table held pages limits queues, s.completeJob i o v = { s with table, held, pages, limits, queues } := by
  unfold State.completeJob
  split
  · exact ⟨_, _, _, _, _, rfl⟩
  · rename_i j _
    let done : Job := { j with state := .complete, channel := none, outcome := some o, verdict := some v }
    obtain ⟨t, e, l, q, h⟩ := ((s.setJob i done).releasePages (s.handleAt i)).offerJob_frame i done
    exact ⟨t, e, _, l, q, h⟩

theorem State.completeAll_frame (o : EndOutcome) (l : List SlotNo) (s : State) :
    ∃ table held pages limits queues, s.completeAll o l = { s with table, held, pages, limits, queues } := by
  induction l generalizing s with
  | nil => exact ⟨_, _, _, _, _, rfl⟩
  | cons i l ih =>
    obtain ⟨t, e, g, m, q, h⟩ := s.completeJob_frame i o .aborted
    obtain ⟨t', e', g', m', q', h'⟩ := ih (s.completeJob i o .aborted)
    exact ⟨t', e', g', m', q', h'.trans (by rw [h])⟩

theorem State.modifyJob_frame (s : State) (i : SlotNo) (f : Job → Job) :
    ∃ table, s.modifyJob i f = { s with table } := by
  unfold State.modifyJob
  split <;> exact ⟨_, rfl⟩

theorem State.takeHead_frame (s : State) :
    ∃ table fifo current, s.takeHead = { s with table, fifo, current } := by
  unfold State.takeHead
  split
  · rename_i h r _ _
    obtain ⟨t, e⟩ := ({ s with fifo := r, current := some h } : State).modifyJob_frame h.slot fun j => { j with state := .reducing }
    exact ⟨t, _, _, e⟩
  · exact ⟨_, _, _, rfl⟩

theorem State.withdraw_frame (s : State) (i : SlotNo) (j : Job) :
    ∃ lanes xpoint chans fifo current, s.withdraw i j = { s with lanes, xpoint, chans, fifo, current } := by
  unfold State.withdraw
  split
  · exact ⟨_, _, _, _, _, rfl⟩
  · exact ⟨_, _, _, _, _, rfl⟩
  · split
    · split
      · rename_i c _ _
        obtain ⟨l, x, ch, h⟩ := s.cutChannel_frame c
        exact ⟨l, x, ch, _, _, h⟩
      · exact ⟨_, _, _, _, _, rfl⟩
    · exact ⟨_, _, _, _, _, rfl⟩
  · exact ⟨_, _, _, _, _, rfl⟩
  · split <;> exact ⟨_, _, _, _, _, rfl⟩

theorem State.discard_frame (s : State) (i : SlotNo) :
    ∃ lanes xpoint table held chans pages fifo current limits, s.discard i = { s with lanes, xpoint, table, held, chans, pages, fifo, current, limits } := by
  unfold State.discard
  split
  · exact ⟨_, _, _, _, _, _, _, _, _, rfl⟩
  · rename_i j _
    obtain ⟨l, x, ch, f, u, h⟩ := s.withdraw_frame i j
    obtain ⟨t, e, m, h'⟩ := ((s.withdraw i j).releasePages (s.handleAt i)).retire_frame i j
    exact ⟨l, x, t, e, ch, _, f, u, m, by rw [h', h]; rfl⟩

theorem State.discardAll_frame (l : List SlotNo) (s : State) :
    ∃ lanes xpoint table held chans pages fifo current limits,
      l.foldl State.discard s = { s with lanes, xpoint, table, held, chans, pages, fifo, current, limits } := by
  induction l generalizing s with
  | nil => exact ⟨_, _, _, _, _, _, _, _, _, rfl⟩
  | cons i l ih =>
    obtain ⟨_, _, _, _, _, _, _, _, _, h⟩ := s.discard_frame i
    obtain ⟨l1, x, t, e, ch, g, f, u, m, h'⟩ := ih (s.discard i)
    exact ⟨l1, x, t, e, ch, g, f, u, m, h'.trans (by rw [h])⟩

theorem State.portReset_frame (s : State) (p : PortNo) :
    ∃ lanes xpoint table held hold chans pages fifo current limits queues, s.portReset p = { s with lanes, xpoint, table, held, hold, chans, pages, fifo, current, limits, queues } := by
  let jobs := s.oldestFirst fun _ j => decide (j.port = p)
  obtain ⟨l, x, t, e, ch, g, f, u, m, h⟩ := State.discardAll_frame jobs s
  obtain ⟨t', f', u', h'⟩ := ((jobs.foldl State.discard s).emptyQueue p).takeHead_frame
  unfold State.portReset
  dsimp only
  split
  · obtain ⟨l', x', t'', d, ch', h''⟩ := (((jobs.foldl State.discard s).emptyQueue p).takeHead).afterAcquisition_frame
    exact ⟨l', x', t'', e, d, ch', g, f', u', m, _, by rw [h'', h', h]; rfl⟩
  · exact ⟨l, x, t', e, _, ch, g, f', u', m, _, by rw [h', h]; rfl⟩

theorem State.endQueuedOn_frame (s : State) (k : LaneNo) :
    ∃ table held pages limits queues, s.endQueuedOn k = { s with table, held, pages, limits, queues } := State.completeAll_frame .laneOffline _ s

theorem State.rewriteLane_frame (s : State) (k : LaneNo) (new : LaneConfig) :
    ∃ lanes xpoint table held chans pages limits queues, s.rewriteLane k new = { s with lanes, xpoint, table, held, chans, pages, limits, queues } := by
  let t := s.setLane k { s.lanes[k] with config := new }
  obtain ⟨tb, e, g, m, q, h⟩ := t.endQueuedOn_frame k
  obtain ⟨l, x, tb', ch, h'⟩ := t.arbitrate_frame
  obtain ⟨l2, x2, tb2, ch2, h2⟩ := (t.endQueuedOn k).arbitrate_frame
  unfold State.rewriteLane
  dsimp only
  split <;> split
  · exact ⟨l2, x2, tb2, e, ch2, g, m, q, by rw [h2, h]; rfl⟩
  · exact ⟨l, x, tb', _, ch, _, _, _, by rw [h']; rfl⟩
  · exact ⟨_, _, tb, e, _, g, m, q, by rw [h]; rfl⟩
  · exact ⟨_, _, _, _, _, _, _, _, rfl⟩

theorem State.endFill_frame (s : State) (o : EndOutcome) :
    ∃ fill queues, s.endFill o = { s with fill, queues } := by
  obtain ⟨q, h⟩ := ({ s with fill := { s.fill with running := false } } : State).offerService_frame
    (.fill o s.fill.first s.fill.last s.fill.written s.fill.skipped)
  exact ⟨_, q, h⟩

theorem State.endCheck_frame (s : State) (o : EndOutcome) :
    ∃ xpoint chans queues verif, s.endCheck o = { s with xpoint, chans, queues, verif } := by
  obtain ⟨q, h⟩ := s.dropCheck.offerService_frame (s.dropCheck.checkReport o)
  exact ⟨_, _, q, _, h⟩

theorem State.reach_frame (s : State) (fine : Fine) :
    ∃ ref, s.reach fine = { s with ref } := ⟨_, rfl⟩

theorem State.tick_frame (s : State) :
    ∃ ref lanes chans, s.tick = { s with ref, lanes, chans } := ⟨_, _, _, rfl⟩

section

variable (s : State) (c : ChannelNo)

@[simp] theorem State.stopChannel_ref : (s.stopChannel c).ref = s.ref := by obtain ⟨_, _, _, h⟩ := s.stopChannel_frame c; rw [h]
@[simp] theorem State.stopChannel_fill : (s.stopChannel c).fill = s.fill := by obtain ⟨_, _, _, h⟩ := s.stopChannel_frame c; rw [h]
@[simp] theorem State.stopChannel_table : (s.stopChannel c).table = s.table := by obtain ⟨_, _, _, h⟩ := s.stopChannel_frame c; rw [h]
@[simp] theorem State.stopChannel_seqCounter : (s.stopChannel c).seqCounter = s.seqCounter := by obtain ⟨_, _, _, h⟩ := s.stopChannel_frame c; rw [h]
@[simp] theorem State.stopChannel_held : (s.stopChannel c).held = s.held := by obtain ⟨_, _, _, h⟩ := s.stopChannel_frame c; rw [h]
@[simp] theorem State.stopChannel_floor : (s.stopChannel c).floor = s.floor := by obtain ⟨_, _, _, h⟩ := s.stopChannel_frame c; rw [h]
@[simp] theorem State.stopChannel_profiles : (s.stopChannel c).profiles = s.profiles := by obtain ⟨_, _, _, h⟩ := s.stopChannel_frame c; rw [h]
@[simp] theorem State.stopChannel_hold : (s.stopChannel c).hold = s.hold := by obtain ⟨_, _, _, h⟩ := s.stopChannel_frame c; rw [h]
@[simp] theorem State.stopChannel_service : (s.stopChannel c).service = s.service := by obtain ⟨_, _, _, h⟩ := s.stopChannel_frame c; rw [h]
@[simp] theorem State.stopChannel_mem : (s.stopChannel c).mem = s.mem := by obtain ⟨_, _, _, h⟩ := s.stopChannel_frame c; rw [h]
@[simp] theorem State.stopChannel_pages : (s.stopChannel c).pages = s.pages := by obtain ⟨_, _, _, h⟩ := s.stopChannel_frame c; rw [h]
@[simp] theorem State.stopChannel_windows : (s.stopChannel c).windows = s.windows := by obtain ⟨_, _, _, h⟩ := s.stopChannel_frame c; rw [h]
@[simp] theorem State.stopChannel_fifo : (s.stopChannel c).fifo = s.fifo := by obtain ⟨_, _, _, h⟩ := s.stopChannel_frame c; rw [h]
@[simp] theorem State.stopChannel_current : (s.stopChannel c).current = s.current := by obtain ⟨_, _, _, h⟩ := s.stopChannel_frame c; rw [h]
@[simp] theorem State.stopChannel_limits : (s.stopChannel c).limits = s.limits := by obtain ⟨_, _, _, h⟩ := s.stopChannel_frame c; rw [h]
@[simp] theorem State.stopChannel_queues : (s.stopChannel c).queues = s.queues := by obtain ⟨_, _, _, h⟩ := s.stopChannel_frame c; rw [h]
@[simp] theorem State.stopChannel_verif : (s.stopChannel c).verif = s.verif := by obtain ⟨_, _, _, h⟩ := s.stopChannel_frame c; rw [h]
@[simp] theorem State.stopChannel_ports : (s.stopChannel c).ports = s.ports := by obtain ⟨_, _, _, h⟩ := s.stopChannel_frame c; rw [h]
@[simp] theorem State.stopChannel_resetPin : (s.stopChannel c).resetPin = s.resetPin := by obtain ⟨_, _, _, h⟩ := s.stopChannel_frame c; rw [h]
@[simp] theorem State.stopChannel_settled : (s.stopChannel c).settled = s.settled := by obtain ⟨_, _, _, h⟩ := s.stopChannel_frame c; rw [h]
@[simp] theorem State.stopChannel_draws : (s.stopChannel c).draws = s.draws := by obtain ⟨_, _, _, h⟩ := s.stopChannel_frame c; rw [h]
@[simp] theorem State.stopChannel_pending : (s.stopChannel c).pending = s.pending := by obtain ⟨_, _, _, h⟩ := s.stopChannel_frame c; rw [h]

end

section

variable (s : State) (c : ChannelNo)

@[simp] theorem State.cutChannel_ref : (s.cutChannel c).ref = s.ref := by obtain ⟨_, _, _, h⟩ := s.cutChannel_frame c; rw [h]
@[simp] theorem State.cutChannel_fill : (s.cutChannel c).fill = s.fill := by obtain ⟨_, _, _, h⟩ := s.cutChannel_frame c; rw [h]
@[simp] theorem State.cutChannel_table : (s.cutChannel c).table = s.table := by obtain ⟨_, _, _, h⟩ := s.cutChannel_frame c; rw [h]
@[simp] theorem State.cutChannel_seqCounter : (s.cutChannel c).seqCounter = s.seqCounter := by obtain ⟨_, _, _, h⟩ := s.cutChannel_frame c; rw [h]
@[simp] theorem State.cutChannel_held : (s.cutChannel c).held = s.held := by obtain ⟨_, _, _, h⟩ := s.cutChannel_frame c; rw [h]
@[simp] theorem State.cutChannel_floor : (s.cutChannel c).floor = s.floor := by obtain ⟨_, _, _, h⟩ := s.cutChannel_frame c; rw [h]
@[simp] theorem State.cutChannel_profiles : (s.cutChannel c).profiles = s.profiles := by obtain ⟨_, _, _, h⟩ := s.cutChannel_frame c; rw [h]
@[simp] theorem State.cutChannel_hold : (s.cutChannel c).hold = s.hold := by obtain ⟨_, _, _, h⟩ := s.cutChannel_frame c; rw [h]
@[simp] theorem State.cutChannel_service : (s.cutChannel c).service = s.service := by obtain ⟨_, _, _, h⟩ := s.cutChannel_frame c; rw [h]
@[simp] theorem State.cutChannel_mem : (s.cutChannel c).mem = s.mem := by obtain ⟨_, _, _, h⟩ := s.cutChannel_frame c; rw [h]
@[simp] theorem State.cutChannel_pages : (s.cutChannel c).pages = s.pages := by obtain ⟨_, _, _, h⟩ := s.cutChannel_frame c; rw [h]
@[simp] theorem State.cutChannel_windows : (s.cutChannel c).windows = s.windows := by obtain ⟨_, _, _, h⟩ := s.cutChannel_frame c; rw [h]
@[simp] theorem State.cutChannel_fifo : (s.cutChannel c).fifo = s.fifo := by obtain ⟨_, _, _, h⟩ := s.cutChannel_frame c; rw [h]
@[simp] theorem State.cutChannel_current : (s.cutChannel c).current = s.current := by obtain ⟨_, _, _, h⟩ := s.cutChannel_frame c; rw [h]
@[simp] theorem State.cutChannel_limits : (s.cutChannel c).limits = s.limits := by obtain ⟨_, _, _, h⟩ := s.cutChannel_frame c; rw [h]
@[simp] theorem State.cutChannel_queues : (s.cutChannel c).queues = s.queues := by obtain ⟨_, _, _, h⟩ := s.cutChannel_frame c; rw [h]
@[simp] theorem State.cutChannel_verif : (s.cutChannel c).verif = s.verif := by obtain ⟨_, _, _, h⟩ := s.cutChannel_frame c; rw [h]
@[simp] theorem State.cutChannel_ports : (s.cutChannel c).ports = s.ports := by obtain ⟨_, _, _, h⟩ := s.cutChannel_frame c; rw [h]
@[simp] theorem State.cutChannel_resetPin : (s.cutChannel c).resetPin = s.resetPin := by obtain ⟨_, _, _, h⟩ := s.cutChannel_frame c; rw [h]
@[simp] theorem State.cutChannel_settled : (s.cutChannel c).settled = s.settled := by obtain ⟨_, _, _, h⟩ := s.cutChannel_frame c; rw [h]
@[simp] theorem State.cutChannel_draws : (s.cutChannel c).draws = s.draws := by obtain ⟨_, _, _, h⟩ := s.cutChannel_frame c; rw [h]
@[simp] theorem State.cutChannel_pending : (s.cutChannel c).pending = s.pending := by obtain ⟨_, _, _, h⟩ := s.cutChannel_frame c; rw [h]

end

section

variable (s : State)

@[simp] theorem State.arbitrate_ref : (s.arbitrate).ref = s.ref := by obtain ⟨_, _, _, _, h⟩ := s.arbitrate_frame; rw [h]
@[simp] theorem State.arbitrate_fill : (s.arbitrate).fill = s.fill := by obtain ⟨_, _, _, _, h⟩ := s.arbitrate_frame; rw [h]
@[simp] theorem State.arbitrate_seqCounter : (s.arbitrate).seqCounter = s.seqCounter := by obtain ⟨_, _, _, _, h⟩ := s.arbitrate_frame; rw [h]
@[simp] theorem State.arbitrate_held : (s.arbitrate).held = s.held := by obtain ⟨_, _, _, _, h⟩ := s.arbitrate_frame; rw [h]
@[simp] theorem State.arbitrate_floor : (s.arbitrate).floor = s.floor := by obtain ⟨_, _, _, _, h⟩ := s.arbitrate_frame; rw [h]
@[simp] theorem State.arbitrate_profiles : (s.arbitrate).profiles = s.profiles := by obtain ⟨_, _, _, _, h⟩ := s.arbitrate_frame; rw [h]
@[simp] theorem State.arbitrate_hold : (s.arbitrate).hold = s.hold := by obtain ⟨_, _, _, _, h⟩ := s.arbitrate_frame; rw [h]
@[simp] theorem State.arbitrate_service : (s.arbitrate).service = s.service := by obtain ⟨_, _, _, _, h⟩ := s.arbitrate_frame; rw [h]
@[simp] theorem State.arbitrate_mem : (s.arbitrate).mem = s.mem := by obtain ⟨_, _, _, _, h⟩ := s.arbitrate_frame; rw [h]
@[simp] theorem State.arbitrate_pages : (s.arbitrate).pages = s.pages := by obtain ⟨_, _, _, _, h⟩ := s.arbitrate_frame; rw [h]
@[simp] theorem State.arbitrate_windows : (s.arbitrate).windows = s.windows := by obtain ⟨_, _, _, _, h⟩ := s.arbitrate_frame; rw [h]
@[simp] theorem State.arbitrate_fifo : (s.arbitrate).fifo = s.fifo := by obtain ⟨_, _, _, _, h⟩ := s.arbitrate_frame; rw [h]
@[simp] theorem State.arbitrate_current : (s.arbitrate).current = s.current := by obtain ⟨_, _, _, _, h⟩ := s.arbitrate_frame; rw [h]
@[simp] theorem State.arbitrate_limits : (s.arbitrate).limits = s.limits := by obtain ⟨_, _, _, _, h⟩ := s.arbitrate_frame; rw [h]
@[simp] theorem State.arbitrate_queues : (s.arbitrate).queues = s.queues := by obtain ⟨_, _, _, _, h⟩ := s.arbitrate_frame; rw [h]
@[simp] theorem State.arbitrate_verif : (s.arbitrate).verif = s.verif := by obtain ⟨_, _, _, _, h⟩ := s.arbitrate_frame; rw [h]
@[simp] theorem State.arbitrate_ports : (s.arbitrate).ports = s.ports := by obtain ⟨_, _, _, _, h⟩ := s.arbitrate_frame; rw [h]
@[simp] theorem State.arbitrate_resetPin : (s.arbitrate).resetPin = s.resetPin := by obtain ⟨_, _, _, _, h⟩ := s.arbitrate_frame; rw [h]
@[simp] theorem State.arbitrate_settled : (s.arbitrate).settled = s.settled := by obtain ⟨_, _, _, _, h⟩ := s.arbitrate_frame; rw [h]
@[simp] theorem State.arbitrate_draws : (s.arbitrate).draws = s.draws := by obtain ⟨_, _, _, _, h⟩ := s.arbitrate_frame; rw [h]
@[simp] theorem State.arbitrate_pending : (s.arbitrate).pending = s.pending := by obtain ⟨_, _, _, _, h⟩ := s.arbitrate_frame; rw [h]

end

section

variable (s : State)

@[simp] theorem State.afterAcquisition_ref : (s.afterAcquisition).ref = s.ref := by obtain ⟨_, _, _, _, _, h⟩ := s.afterAcquisition_frame; rw [h]
@[simp] theorem State.afterAcquisition_fill : (s.afterAcquisition).fill = s.fill := by obtain ⟨_, _, _, _, _, h⟩ := s.afterAcquisition_frame; rw [h]
@[simp] theorem State.afterAcquisition_seqCounter : (s.afterAcquisition).seqCounter = s.seqCounter := by obtain ⟨_, _, _, _, _, h⟩ := s.afterAcquisition_frame; rw [h]
@[simp] theorem State.afterAcquisition_held : (s.afterAcquisition).held = s.held := by obtain ⟨_, _, _, _, _, h⟩ := s.afterAcquisition_frame; rw [h]
@[simp] theorem State.afterAcquisition_floor : (s.afterAcquisition).floor = s.floor := by obtain ⟨_, _, _, _, _, h⟩ := s.afterAcquisition_frame; rw [h]
@[simp] theorem State.afterAcquisition_profiles : (s.afterAcquisition).profiles = s.profiles := by obtain ⟨_, _, _, _, _, h⟩ := s.afterAcquisition_frame; rw [h]
@[simp] theorem State.afterAcquisition_service : (s.afterAcquisition).service = s.service := by obtain ⟨_, _, _, _, _, h⟩ := s.afterAcquisition_frame; rw [h]
@[simp] theorem State.afterAcquisition_mem : (s.afterAcquisition).mem = s.mem := by obtain ⟨_, _, _, _, _, h⟩ := s.afterAcquisition_frame; rw [h]
@[simp] theorem State.afterAcquisition_pages : (s.afterAcquisition).pages = s.pages := by obtain ⟨_, _, _, _, _, h⟩ := s.afterAcquisition_frame; rw [h]
@[simp] theorem State.afterAcquisition_windows : (s.afterAcquisition).windows = s.windows := by obtain ⟨_, _, _, _, _, h⟩ := s.afterAcquisition_frame; rw [h]
@[simp] theorem State.afterAcquisition_fifo : (s.afterAcquisition).fifo = s.fifo := by obtain ⟨_, _, _, _, _, h⟩ := s.afterAcquisition_frame; rw [h]
@[simp] theorem State.afterAcquisition_current : (s.afterAcquisition).current = s.current := by obtain ⟨_, _, _, _, _, h⟩ := s.afterAcquisition_frame; rw [h]
@[simp] theorem State.afterAcquisition_limits : (s.afterAcquisition).limits = s.limits := by obtain ⟨_, _, _, _, _, h⟩ := s.afterAcquisition_frame; rw [h]
@[simp] theorem State.afterAcquisition_queues : (s.afterAcquisition).queues = s.queues := by obtain ⟨_, _, _, _, _, h⟩ := s.afterAcquisition_frame; rw [h]
@[simp] theorem State.afterAcquisition_verif : (s.afterAcquisition).verif = s.verif := by obtain ⟨_, _, _, _, _, h⟩ := s.afterAcquisition_frame; rw [h]
@[simp] theorem State.afterAcquisition_ports : (s.afterAcquisition).ports = s.ports := by obtain ⟨_, _, _, _, _, h⟩ := s.afterAcquisition_frame; rw [h]
@[simp] theorem State.afterAcquisition_resetPin : (s.afterAcquisition).resetPin = s.resetPin := by obtain ⟨_, _, _, _, _, h⟩ := s.afterAcquisition_frame; rw [h]
@[simp] theorem State.afterAcquisition_settled : (s.afterAcquisition).settled = s.settled := by obtain ⟨_, _, _, _, _, h⟩ := s.afterAcquisition_frame; rw [h]
@[simp] theorem State.afterAcquisition_draws : (s.afterAcquisition).draws = s.draws := by obtain ⟨_, _, _, _, _, h⟩ := s.afterAcquisition_frame; rw [h]
@[simp] theorem State.afterAcquisition_pending : (s.afterAcquisition).pending = s.pending := by obtain ⟨_, _, _, _, _, h⟩ := s.afterAcquisition_frame; rw [h]

end

section

variable (s : State) (r : ServiceReport)

@[simp] theorem State.offerService_ref : (s.offerService r).ref = s.ref := by obtain ⟨_, h⟩ := s.offerService_frame r; rw [h]
@[simp] theorem State.offerService_lanes : (s.offerService r).lanes = s.lanes := by obtain ⟨_, h⟩ := s.offerService_frame r; rw [h]
@[simp] theorem State.offerService_fill : (s.offerService r).fill = s.fill := by obtain ⟨_, h⟩ := s.offerService_frame r; rw [h]
@[simp] theorem State.offerService_xpoint : (s.offerService r).xpoint = s.xpoint := by obtain ⟨_, h⟩ := s.offerService_frame r; rw [h]
@[simp] theorem State.offerService_table : (s.offerService r).table = s.table := by obtain ⟨_, h⟩ := s.offerService_frame r; rw [h]
@[simp] theorem State.offerService_seqCounter : (s.offerService r).seqCounter = s.seqCounter := by obtain ⟨_, h⟩ := s.offerService_frame r; rw [h]
@[simp] theorem State.offerService_held : (s.offerService r).held = s.held := by obtain ⟨_, h⟩ := s.offerService_frame r; rw [h]
@[simp] theorem State.offerService_floor : (s.offerService r).floor = s.floor := by obtain ⟨_, h⟩ := s.offerService_frame r; rw [h]
@[simp] theorem State.offerService_profiles : (s.offerService r).profiles = s.profiles := by obtain ⟨_, h⟩ := s.offerService_frame r; rw [h]
@[simp] theorem State.offerService_hold : (s.offerService r).hold = s.hold := by obtain ⟨_, h⟩ := s.offerService_frame r; rw [h]
@[simp] theorem State.offerService_service : (s.offerService r).service = s.service := by obtain ⟨_, h⟩ := s.offerService_frame r; rw [h]
@[simp] theorem State.offerService_chans : (s.offerService r).chans = s.chans := by obtain ⟨_, h⟩ := s.offerService_frame r; rw [h]
@[simp] theorem State.offerService_mem : (s.offerService r).mem = s.mem := by obtain ⟨_, h⟩ := s.offerService_frame r; rw [h]
@[simp] theorem State.offerService_pages : (s.offerService r).pages = s.pages := by obtain ⟨_, h⟩ := s.offerService_frame r; rw [h]
@[simp] theorem State.offerService_windows : (s.offerService r).windows = s.windows := by obtain ⟨_, h⟩ := s.offerService_frame r; rw [h]
@[simp] theorem State.offerService_fifo : (s.offerService r).fifo = s.fifo := by obtain ⟨_, h⟩ := s.offerService_frame r; rw [h]
@[simp] theorem State.offerService_current : (s.offerService r).current = s.current := by obtain ⟨_, h⟩ := s.offerService_frame r; rw [h]
@[simp] theorem State.offerService_limits : (s.offerService r).limits = s.limits := by obtain ⟨_, h⟩ := s.offerService_frame r; rw [h]
@[simp] theorem State.offerService_verif : (s.offerService r).verif = s.verif := by obtain ⟨_, h⟩ := s.offerService_frame r; rw [h]
@[simp] theorem State.offerService_ports : (s.offerService r).ports = s.ports := by obtain ⟨_, h⟩ := s.offerService_frame r; rw [h]
@[simp] theorem State.offerService_resetPin : (s.offerService r).resetPin = s.resetPin := by obtain ⟨_, h⟩ := s.offerService_frame r; rw [h]
@[simp] theorem State.offerService_settled : (s.offerService r).settled = s.settled := by obtain ⟨_, h⟩ := s.offerService_frame r; rw [h]
@[simp] theorem State.offerService_draws : (s.offerService r).draws = s.draws := by obtain ⟨_, h⟩ := s.offerService_frame r; rw [h]
@[simp] theorem State.offerService_pending : (s.offerService r).pending = s.pending := by obtain ⟨_, h⟩ := s.offerService_frame r; rw [h]

end

section

variable (s : State) (i : SlotNo) (o : EndOutcome) (v : Verdict)

@[simp] theorem State.completeJob_ref : (s.completeJob i o v).ref = s.ref := by obtain ⟨_, _, _, _, _, h⟩ := s.completeJob_frame i o v; rw [h]
@[simp] theorem State.completeJob_lanes : (s.completeJob i o v).lanes = s.lanes := by obtain ⟨_, _, _, _, _, h⟩ := s.completeJob_frame i o v; rw [h]
@[simp] theorem State.completeJob_fill : (s.completeJob i o v).fill = s.fill := by obtain ⟨_, _, _, _, _, h⟩ := s.completeJob_frame i o v; rw [h]
@[simp] theorem State.completeJob_xpoint : (s.completeJob i o v).xpoint = s.xpoint := by obtain ⟨_, _, _, _, _, h⟩ := s.completeJob_frame i o v; rw [h]
@[simp] theorem State.completeJob_seqCounter : (s.completeJob i o v).seqCounter = s.seqCounter := by obtain ⟨_, _, _, _, _, h⟩ := s.completeJob_frame i o v; rw [h]
@[simp] theorem State.completeJob_floor : (s.completeJob i o v).floor = s.floor := by obtain ⟨_, _, _, _, _, h⟩ := s.completeJob_frame i o v; rw [h]
@[simp] theorem State.completeJob_profiles : (s.completeJob i o v).profiles = s.profiles := by obtain ⟨_, _, _, _, _, h⟩ := s.completeJob_frame i o v; rw [h]
@[simp] theorem State.completeJob_hold : (s.completeJob i o v).hold = s.hold := by obtain ⟨_, _, _, _, _, h⟩ := s.completeJob_frame i o v; rw [h]
@[simp] theorem State.completeJob_service : (s.completeJob i o v).service = s.service := by obtain ⟨_, _, _, _, _, h⟩ := s.completeJob_frame i o v; rw [h]
@[simp] theorem State.completeJob_chans : (s.completeJob i o v).chans = s.chans := by obtain ⟨_, _, _, _, _, h⟩ := s.completeJob_frame i o v; rw [h]
@[simp] theorem State.completeJob_mem : (s.completeJob i o v).mem = s.mem := by obtain ⟨_, _, _, _, _, h⟩ := s.completeJob_frame i o v; rw [h]
@[simp] theorem State.completeJob_windows : (s.completeJob i o v).windows = s.windows := by obtain ⟨_, _, _, _, _, h⟩ := s.completeJob_frame i o v; rw [h]
@[simp] theorem State.completeJob_fifo : (s.completeJob i o v).fifo = s.fifo := by obtain ⟨_, _, _, _, _, h⟩ := s.completeJob_frame i o v; rw [h]
@[simp] theorem State.completeJob_current : (s.completeJob i o v).current = s.current := by obtain ⟨_, _, _, _, _, h⟩ := s.completeJob_frame i o v; rw [h]
@[simp] theorem State.completeJob_verif : (s.completeJob i o v).verif = s.verif := by obtain ⟨_, _, _, _, _, h⟩ := s.completeJob_frame i o v; rw [h]
@[simp] theorem State.completeJob_ports : (s.completeJob i o v).ports = s.ports := by obtain ⟨_, _, _, _, _, h⟩ := s.completeJob_frame i o v; rw [h]
@[simp] theorem State.completeJob_resetPin : (s.completeJob i o v).resetPin = s.resetPin := by obtain ⟨_, _, _, _, _, h⟩ := s.completeJob_frame i o v; rw [h]
@[simp] theorem State.completeJob_settled : (s.completeJob i o v).settled = s.settled := by obtain ⟨_, _, _, _, _, h⟩ := s.completeJob_frame i o v; rw [h]
@[simp] theorem State.completeJob_draws : (s.completeJob i o v).draws = s.draws := by obtain ⟨_, _, _, _, _, h⟩ := s.completeJob_frame i o v; rw [h]
@[simp] theorem State.completeJob_pending : (s.completeJob i o v).pending = s.pending := by obtain ⟨_, _, _, _, _, h⟩ := s.completeJob_frame i o v; rw [h]

end

section

variable (s : State)

@[simp] theorem State.takeHead_ref : (s.takeHead).ref = s.ref := by obtain ⟨_, _, _, h⟩ := s.takeHead_frame; rw [h]
@[simp] theorem State.takeHead_lanes : (s.takeHead).lanes = s.lanes := by obtain ⟨_, _, _, h⟩ := s.takeHead_frame; rw [h]
@[simp] theorem State.takeHead_fill : (s.takeHead).fill = s.fill := by obtain ⟨_, _, _, h⟩ := s.takeHead_frame; rw [h]
@[simp] theorem State.takeHead_xpoint : (s.takeHead).xpoint = s.xpoint := by obtain ⟨_, _, _, h⟩ := s.takeHead_frame; rw [h]
@[simp] theorem State.takeHead_seqCounter : (s.takeHead).seqCounter = s.seqCounter := by obtain ⟨_, _, _, h⟩ := s.takeHead_frame; rw [h]
@[simp] theorem State.takeHead_held : (s.takeHead).held = s.held := by obtain ⟨_, _, _, h⟩ := s.takeHead_frame; rw [h]
@[simp] theorem State.takeHead_floor : (s.takeHead).floor = s.floor := by obtain ⟨_, _, _, h⟩ := s.takeHead_frame; rw [h]
@[simp] theorem State.takeHead_profiles : (s.takeHead).profiles = s.profiles := by obtain ⟨_, _, _, h⟩ := s.takeHead_frame; rw [h]
@[simp] theorem State.takeHead_hold : (s.takeHead).hold = s.hold := by obtain ⟨_, _, _, h⟩ := s.takeHead_frame; rw [h]
@[simp] theorem State.takeHead_service : (s.takeHead).service = s.service := by obtain ⟨_, _, _, h⟩ := s.takeHead_frame; rw [h]
@[simp] theorem State.takeHead_chans : (s.takeHead).chans = s.chans := by obtain ⟨_, _, _, h⟩ := s.takeHead_frame; rw [h]
@[simp] theorem State.takeHead_mem : (s.takeHead).mem = s.mem := by obtain ⟨_, _, _, h⟩ := s.takeHead_frame; rw [h]
@[simp] theorem State.takeHead_pages : (s.takeHead).pages = s.pages := by obtain ⟨_, _, _, h⟩ := s.takeHead_frame; rw [h]
@[simp] theorem State.takeHead_windows : (s.takeHead).windows = s.windows := by obtain ⟨_, _, _, h⟩ := s.takeHead_frame; rw [h]
@[simp] theorem State.takeHead_limits : (s.takeHead).limits = s.limits := by obtain ⟨_, _, _, h⟩ := s.takeHead_frame; rw [h]
@[simp] theorem State.takeHead_queues : (s.takeHead).queues = s.queues := by obtain ⟨_, _, _, h⟩ := s.takeHead_frame; rw [h]
@[simp] theorem State.takeHead_verif : (s.takeHead).verif = s.verif := by obtain ⟨_, _, _, h⟩ := s.takeHead_frame; rw [h]
@[simp] theorem State.takeHead_ports : (s.takeHead).ports = s.ports := by obtain ⟨_, _, _, h⟩ := s.takeHead_frame; rw [h]
@[simp] theorem State.takeHead_resetPin : (s.takeHead).resetPin = s.resetPin := by obtain ⟨_, _, _, h⟩ := s.takeHead_frame; rw [h]
@[simp] theorem State.takeHead_settled : (s.takeHead).settled = s.settled := by obtain ⟨_, _, _, h⟩ := s.takeHead_frame; rw [h]
@[simp] theorem State.takeHead_draws : (s.takeHead).draws = s.draws := by obtain ⟨_, _, _, h⟩ := s.takeHead_frame; rw [h]
@[simp] theorem State.takeHead_pending : (s.takeHead).pending = s.pending := by obtain ⟨_, _, _, h⟩ := s.takeHead_frame; rw [h]

end

section

variable (s : State) (p : PortNo)

@[simp] theorem State.portReset_ref : (s.portReset p).ref = s.ref := by obtain ⟨_, _, _, _, _, _, _, _, _, _, _, h⟩ := s.portReset_frame p; rw [h]
@[simp] theorem State.portReset_fill : (s.portReset p).fill = s.fill := by obtain ⟨_, _, _, _, _, _, _, _, _, _, _, h⟩ := s.portReset_frame p; rw [h]
@[simp] theorem State.portReset_seqCounter : (s.portReset p).seqCounter = s.seqCounter := by obtain ⟨_, _, _, _, _, _, _, _, _, _, _, h⟩ := s.portReset_frame p; rw [h]
@[simp] theorem State.portReset_floor : (s.portReset p).floor = s.floor := by obtain ⟨_, _, _, _, _, _, _, _, _, _, _, h⟩ := s.portReset_frame p; rw [h]
@[simp] theorem State.portReset_profiles : (s.portReset p).profiles = s.profiles := by obtain ⟨_, _, _, _, _, _, _, _, _, _, _, h⟩ := s.portReset_frame p; rw [h]
@[simp] theorem State.portReset_service : (s.portReset p).service = s.service := by obtain ⟨_, _, _, _, _, _, _, _, _, _, _, h⟩ := s.portReset_frame p; rw [h]
@[simp] theorem State.portReset_mem : (s.portReset p).mem = s.mem := by obtain ⟨_, _, _, _, _, _, _, _, _, _, _, h⟩ := s.portReset_frame p; rw [h]
@[simp] theorem State.portReset_windows : (s.portReset p).windows = s.windows := by obtain ⟨_, _, _, _, _, _, _, _, _, _, _, h⟩ := s.portReset_frame p; rw [h]
@[simp] theorem State.portReset_verif : (s.portReset p).verif = s.verif := by obtain ⟨_, _, _, _, _, _, _, _, _, _, _, h⟩ := s.portReset_frame p; rw [h]
@[simp] theorem State.portReset_ports : (s.portReset p).ports = s.ports := by obtain ⟨_, _, _, _, _, _, _, _, _, _, _, h⟩ := s.portReset_frame p; rw [h]
@[simp] theorem State.portReset_resetPin : (s.portReset p).resetPin = s.resetPin := by obtain ⟨_, _, _, _, _, _, _, _, _, _, _, h⟩ := s.portReset_frame p; rw [h]
@[simp] theorem State.portReset_settled : (s.portReset p).settled = s.settled := by obtain ⟨_, _, _, _, _, _, _, _, _, _, _, h⟩ := s.portReset_frame p; rw [h]
@[simp] theorem State.portReset_draws : (s.portReset p).draws = s.draws := by obtain ⟨_, _, _, _, _, _, _, _, _, _, _, h⟩ := s.portReset_frame p; rw [h]
@[simp] theorem State.portReset_pending : (s.portReset p).pending = s.pending := by obtain ⟨_, _, _, _, _, _, _, _, _, _, _, h⟩ := s.portReset_frame p; rw [h]

end

section

variable (s : State) (k : LaneNo) (new : LaneConfig)

@[simp] theorem State.rewriteLane_ref : (s.rewriteLane k new).ref = s.ref := by obtain ⟨_, _, _, _, _, _, _, _, h⟩ := s.rewriteLane_frame k new; rw [h]
@[simp] theorem State.rewriteLane_fill : (s.rewriteLane k new).fill = s.fill := by obtain ⟨_, _, _, _, _, _, _, _, h⟩ := s.rewriteLane_frame k new; rw [h]
@[simp] theorem State.rewriteLane_seqCounter : (s.rewriteLane k new).seqCounter = s.seqCounter := by obtain ⟨_, _, _, _, _, _, _, _, h⟩ := s.rewriteLane_frame k new; rw [h]
@[simp] theorem State.rewriteLane_floor : (s.rewriteLane k new).floor = s.floor := by obtain ⟨_, _, _, _, _, _, _, _, h⟩ := s.rewriteLane_frame k new; rw [h]
@[simp] theorem State.rewriteLane_profiles : (s.rewriteLane k new).profiles = s.profiles := by obtain ⟨_, _, _, _, _, _, _, _, h⟩ := s.rewriteLane_frame k new; rw [h]
@[simp] theorem State.rewriteLane_hold : (s.rewriteLane k new).hold = s.hold := by obtain ⟨_, _, _, _, _, _, _, _, h⟩ := s.rewriteLane_frame k new; rw [h]
@[simp] theorem State.rewriteLane_service : (s.rewriteLane k new).service = s.service := by obtain ⟨_, _, _, _, _, _, _, _, h⟩ := s.rewriteLane_frame k new; rw [h]
@[simp] theorem State.rewriteLane_mem : (s.rewriteLane k new).mem = s.mem := by obtain ⟨_, _, _, _, _, _, _, _, h⟩ := s.rewriteLane_frame k new; rw [h]
@[simp] theorem State.rewriteLane_windows : (s.rewriteLane k new).windows = s.windows := by obtain ⟨_, _, _, _, _, _, _, _, h⟩ := s.rewriteLane_frame k new; rw [h]
@[simp] theorem State.rewriteLane_fifo : (s.rewriteLane k new).fifo = s.fifo := by obtain ⟨_, _, _, _, _, _, _, _, h⟩ := s.rewriteLane_frame k new; rw [h]
@[simp] theorem State.rewriteLane_current : (s.rewriteLane k new).current = s.current := by obtain ⟨_, _, _, _, _, _, _, _, h⟩ := s.rewriteLane_frame k new; rw [h]
@[simp] theorem State.rewriteLane_verif : (s.rewriteLane k new).verif = s.verif := by obtain ⟨_, _, _, _, _, _, _, _, h⟩ := s.rewriteLane_frame k new; rw [h]
@[simp] theorem State.rewriteLane_ports : (s.rewriteLane k new).ports = s.ports := by obtain ⟨_, _, _, _, _, _, _, _, h⟩ := s.rewriteLane_frame k new; rw [h]
@[simp] theorem State.rewriteLane_resetPin : (s.rewriteLane k new).resetPin = s.resetPin := by obtain ⟨_, _, _, _, _, _, _, _, h⟩ := s.rewriteLane_frame k new; rw [h]
@[simp] theorem State.rewriteLane_settled : (s.rewriteLane k new).settled = s.settled := by obtain ⟨_, _, _, _, _, _, _, _, h⟩ := s.rewriteLane_frame k new; rw [h]
@[simp] theorem State.rewriteLane_draws : (s.rewriteLane k new).draws = s.draws := by obtain ⟨_, _, _, _, _, _, _, _, h⟩ := s.rewriteLane_frame k new; rw [h]
@[simp] theorem State.rewriteLane_pending : (s.rewriteLane k new).pending = s.pending := by obtain ⟨_, _, _, _, _, _, _, _, h⟩ := s.rewriteLane_frame k new; rw [h]

end

section

variable (s : State) (o : EndOutcome)

@[simp] theorem State.endCheck_ref : (s.endCheck o).ref = s.ref := by obtain ⟨_, _, _, _, h⟩ := s.endCheck_frame o; rw [h]
@[simp] theorem State.endCheck_lanes : (s.endCheck o).lanes = s.lanes := by obtain ⟨_, _, _, _, h⟩ := s.endCheck_frame o; rw [h]
@[simp] theorem State.endCheck_fill : (s.endCheck o).fill = s.fill := by obtain ⟨_, _, _, _, h⟩ := s.endCheck_frame o; rw [h]
@[simp] theorem State.endCheck_table : (s.endCheck o).table = s.table := by obtain ⟨_, _, _, _, h⟩ := s.endCheck_frame o; rw [h]
@[simp] theorem State.endCheck_seqCounter : (s.endCheck o).seqCounter = s.seqCounter := by obtain ⟨_, _, _, _, h⟩ := s.endCheck_frame o; rw [h]
@[simp] theorem State.endCheck_held : (s.endCheck o).held = s.held := by obtain ⟨_, _, _, _, h⟩ := s.endCheck_frame o; rw [h]
@[simp] theorem State.endCheck_floor : (s.endCheck o).floor = s.floor := by obtain ⟨_, _, _, _, h⟩ := s.endCheck_frame o; rw [h]
@[simp] theorem State.endCheck_profiles : (s.endCheck o).profiles = s.profiles := by obtain ⟨_, _, _, _, h⟩ := s.endCheck_frame o; rw [h]
@[simp] theorem State.endCheck_hold : (s.endCheck o).hold = s.hold := by obtain ⟨_, _, _, _, h⟩ := s.endCheck_frame o; rw [h]
@[simp] theorem State.endCheck_service : (s.endCheck o).service = s.service := by obtain ⟨_, _, _, _, h⟩ := s.endCheck_frame o; rw [h]
@[simp] theorem State.endCheck_mem : (s.endCheck o).mem = s.mem := by obtain ⟨_, _, _, _, h⟩ := s.endCheck_frame o; rw [h]
@[simp] theorem State.endCheck_pages : (s.endCheck o).pages = s.pages := by obtain ⟨_, _, _, _, h⟩ := s.endCheck_frame o; rw [h]
@[simp] theorem State.endCheck_windows : (s.endCheck o).windows = s.windows := by obtain ⟨_, _, _, _, h⟩ := s.endCheck_frame o; rw [h]
@[simp] theorem State.endCheck_fifo : (s.endCheck o).fifo = s.fifo := by obtain ⟨_, _, _, _, h⟩ := s.endCheck_frame o; rw [h]
@[simp] theorem State.endCheck_current : (s.endCheck o).current = s.current := by obtain ⟨_, _, _, _, h⟩ := s.endCheck_frame o; rw [h]
@[simp] theorem State.endCheck_limits : (s.endCheck o).limits = s.limits := by obtain ⟨_, _, _, _, h⟩ := s.endCheck_frame o; rw [h]
@[simp] theorem State.endCheck_ports : (s.endCheck o).ports = s.ports := by obtain ⟨_, _, _, _, h⟩ := s.endCheck_frame o; rw [h]
@[simp] theorem State.endCheck_resetPin : (s.endCheck o).resetPin = s.resetPin := by obtain ⟨_, _, _, _, h⟩ := s.endCheck_frame o; rw [h]
@[simp] theorem State.endCheck_settled : (s.endCheck o).settled = s.settled := by obtain ⟨_, _, _, _, h⟩ := s.endCheck_frame o; rw [h]
@[simp] theorem State.endCheck_draws : (s.endCheck o).draws = s.draws := by obtain ⟨_, _, _, _, h⟩ := s.endCheck_frame o; rw [h]
@[simp] theorem State.endCheck_pending : (s.endCheck o).pending = s.pending := by obtain ⟨_, _, _, _, h⟩ := s.endCheck_frame o; rw [h]

end

section

variable (s : State) (fine : Fine)

@[simp] theorem State.reach_lanes : (s.reach fine).lanes = s.lanes := by obtain ⟨_, h⟩ := s.reach_frame fine; rw [h]
@[simp] theorem State.reach_fill : (s.reach fine).fill = s.fill := by obtain ⟨_, h⟩ := s.reach_frame fine; rw [h]
@[simp] theorem State.reach_xpoint : (s.reach fine).xpoint = s.xpoint := by obtain ⟨_, h⟩ := s.reach_frame fine; rw [h]
@[simp] theorem State.reach_table : (s.reach fine).table = s.table := by obtain ⟨_, h⟩ := s.reach_frame fine; rw [h]
@[simp] theorem State.reach_seqCounter : (s.reach fine).seqCounter = s.seqCounter := by obtain ⟨_, h⟩ := s.reach_frame fine; rw [h]
@[simp] theorem State.reach_held : (s.reach fine).held = s.held := by obtain ⟨_, h⟩ := s.reach_frame fine; rw [h]
@[simp] theorem State.reach_floor : (s.reach fine).floor = s.floor := by obtain ⟨_, h⟩ := s.reach_frame fine; rw [h]
@[simp] theorem State.reach_profiles : (s.reach fine).profiles = s.profiles := by obtain ⟨_, h⟩ := s.reach_frame fine; rw [h]
@[simp] theorem State.reach_hold : (s.reach fine).hold = s.hold := by obtain ⟨_, h⟩ := s.reach_frame fine; rw [h]
@[simp] theorem State.reach_service : (s.reach fine).service = s.service := by obtain ⟨_, h⟩ := s.reach_frame fine; rw [h]
@[simp] theorem State.reach_chans : (s.reach fine).chans = s.chans := by obtain ⟨_, h⟩ := s.reach_frame fine; rw [h]
@[simp] theorem State.reach_mem : (s.reach fine).mem = s.mem := by obtain ⟨_, h⟩ := s.reach_frame fine; rw [h]
@[simp] theorem State.reach_pages : (s.reach fine).pages = s.pages := by obtain ⟨_, h⟩ := s.reach_frame fine; rw [h]
@[simp] theorem State.reach_windows : (s.reach fine).windows = s.windows := by obtain ⟨_, h⟩ := s.reach_frame fine; rw [h]
@[simp] theorem State.reach_fifo : (s.reach fine).fifo = s.fifo := by obtain ⟨_, h⟩ := s.reach_frame fine; rw [h]
@[simp] theorem State.reach_current : (s.reach fine).current = s.current := by obtain ⟨_, h⟩ := s.reach_frame fine; rw [h]
@[simp] theorem State.reach_limits : (s.reach fine).limits = s.limits := by obtain ⟨_, h⟩ := s.reach_frame fine; rw [h]
@[simp] theorem State.reach_queues : (s.reach fine).queues = s.queues := by obtain ⟨_, h⟩ := s.reach_frame fine; rw [h]
@[simp] theorem State.reach_verif : (s.reach fine).verif = s.verif := by obtain ⟨_, h⟩ := s.reach_frame fine; rw [h]
@[simp] theorem State.reach_ports : (s.reach fine).ports = s.ports := by obtain ⟨_, h⟩ := s.reach_frame fine; rw [h]
@[simp] theorem State.reach_resetPin : (s.reach fine).resetPin = s.resetPin := by obtain ⟨_, h⟩ := s.reach_frame fine; rw [h]
@[simp] theorem State.reach_settled : (s.reach fine).settled = s.settled := by obtain ⟨_, h⟩ := s.reach_frame fine; rw [h]
@[simp] theorem State.reach_draws : (s.reach fine).draws = s.draws := by obtain ⟨_, h⟩ := s.reach_frame fine; rw [h]
@[simp] theorem State.reach_pending : (s.reach fine).pending = s.pending := by obtain ⟨_, h⟩ := s.reach_frame fine; rw [h]

end

section

variable (s : State)

@[simp] theorem State.tick_fill : (s.tick).fill = s.fill := by obtain ⟨_, _, _, h⟩ := s.tick_frame; rw [h]
@[simp] theorem State.tick_xpoint : (s.tick).xpoint = s.xpoint := by obtain ⟨_, _, _, h⟩ := s.tick_frame; rw [h]
@[simp] theorem State.tick_table : (s.tick).table = s.table := by obtain ⟨_, _, _, h⟩ := s.tick_frame; rw [h]
@[simp] theorem State.tick_seqCounter : (s.tick).seqCounter = s.seqCounter := by obtain ⟨_, _, _, h⟩ := s.tick_frame; rw [h]
@[simp] theorem State.tick_held : (s.tick).held = s.held := by obtain ⟨_, _, _, h⟩ := s.tick_frame; rw [h]
@[simp] theorem State.tick_floor : (s.tick).floor = s.floor := by obtain ⟨_, _, _, h⟩ := s.tick_frame; rw [h]
@[simp] theorem State.tick_profiles : (s.tick).profiles = s.profiles := by obtain ⟨_, _, _, h⟩ := s.tick_frame; rw [h]
@[simp] theorem State.tick_hold : (s.tick).hold = s.hold := by obtain ⟨_, _, _, h⟩ := s.tick_frame; rw [h]
@[simp] theorem State.tick_service : (s.tick).service = s.service := by obtain ⟨_, _, _, h⟩ := s.tick_frame; rw [h]
@[simp] theorem State.tick_mem : (s.tick).mem = s.mem := by obtain ⟨_, _, _, h⟩ := s.tick_frame; rw [h]
@[simp] theorem State.tick_pages : (s.tick).pages = s.pages := by obtain ⟨_, _, _, h⟩ := s.tick_frame; rw [h]
@[simp] theorem State.tick_windows : (s.tick).windows = s.windows := by obtain ⟨_, _, _, h⟩ := s.tick_frame; rw [h]
@[simp] theorem State.tick_fifo : (s.tick).fifo = s.fifo := by obtain ⟨_, _, _, h⟩ := s.tick_frame; rw [h]
@[simp] theorem State.tick_current : (s.tick).current = s.current := by obtain ⟨_, _, _, h⟩ := s.tick_frame; rw [h]
@[simp] theorem State.tick_limits : (s.tick).limits = s.limits := by obtain ⟨_, _, _, h⟩ := s.tick_frame; rw [h]
@[simp] theorem State.tick_queues : (s.tick).queues = s.queues := by obtain ⟨_, _, _, h⟩ := s.tick_frame; rw [h]
@[simp] theorem State.tick_verif : (s.tick).verif = s.verif := by obtain ⟨_, _, _, h⟩ := s.tick_frame; rw [h]
@[simp] theorem State.tick_ports : (s.tick).ports = s.ports := by obtain ⟨_, _, _, h⟩ := s.tick_frame; rw [h]
@[simp] theorem State.tick_resetPin : (s.tick).resetPin = s.resetPin := by obtain ⟨_, _, _, h⟩ := s.tick_frame; rw [h]
@[simp] theorem State.tick_settled : (s.tick).settled = s.settled := by obtain ⟨_, _, _, h⟩ := s.tick_frame; rw [h]
@[simp] theorem State.tick_draws : (s.tick).draws = s.draws := by obtain ⟨_, _, _, h⟩ := s.tick_frame; rw [h]
@[simp] theorem State.tick_pending : (s.tick).pending = s.pending := by obtain ⟨_, _, _, h⟩ := s.tick_frame; rw [h]

end

end Sys2Proof.Machine
end

