-- ==== Sys2Proof/WellFormed.lean ====
section
/-! DEFINITION. Which commands the part's pins can carry. The lanes, channels, ports and codes of a command are right by their
types; what is left to check is that the bytes of a request end where its frame ends (R173) and that a stamping error is below half
the range of a timestamp (R3). -/

namespace Sys2Proof

/-- The bytes of a request after its code byte, or none for an event. -/
def Instr.bytes? : Instr → Option (List Byte)
  | .unknownRequest _ _ b | .submit _ b | .cancel _ b | .readJob _ b | .takeCompletion _ b | .readStatus _ b
  | .readSamples _ b | .readLane _ b | .readLimits _ b | .readChannel _ b | .readReference _ b | .resetOwnPort _ b
  | .resetPort _ b | .writeLane _ b | .fillLanes _ b | .stopFill _ b | .writeWindow _ b | .writeProfile _ b
  | .writeFloor _ b | .writeLimit _ b | .freeze _ b | .thaw _ b | .hold _ b | .release _ b | .checkChannels _ b
  | .stopCheck _ b | .writeService _ b | .clearReflost _ b | .clearRefEvents _ b => some b
  | .selectAsserted _ | .selectReleased _ | .fillVisit | .refinRisingEdge | .referenceLocked | .absenceExpiry
  | .lineTimeAdvance | .lineTimeRcAdvance | .laneInputTransition _ _ | .qualifiedEdge _ _ | .starvationExpiry _
  | .reductionComplete | .calEdge _ _ _ _ | .deviceReset | .deviceResetRelease | .powerOnReset
  | .powerOnSettleExpiry | .lastResponseByteClockedOut _ => none

/-- The stamping errors a command carries, in ticks. -/
def Instr.errors : Instr → List Int
  | .calEdge e0 e1 e2 e3 => [e0, e1, e2, e3]
  | .unknownRequest _ _ _ | .submit _ _ | .cancel _ _ | .readJob _ _ | .takeCompletion _ _ | .readStatus _ _
  | .readSamples _ _ | .readLane _ _ | .readLimits _ _ | .readChannel _ _ | .readReference _ _ | .resetOwnPort _ _
  | .resetPort _ _ | .writeLane _ _ | .fillLanes _ _ | .stopFill _ _ | .writeWindow _ _ | .writeProfile _ _
  | .writeFloor _ _ | .writeLimit _ _ | .freeze _ _ | .thaw _ _ | .hold _ _ | .release _ _ | .checkChannels _ _
  | .stopCheck _ _ | .writeService _ _ | .clearReflost _ _ | .clearRefEvents _ _ | .selectAsserted _
  | .selectReleased _ | .fillVisit | .refinRisingEdge | .referenceLocked | .absenceExpiry | .lineTimeAdvance
  | .lineTimeRcAdvance | .laneInputTransition _ _ | .qualifiedEdge _ _ | .starvationExpiry _ | .reductionComplete
  | .deviceReset | .deviceResetRelease | .powerOnReset | .powerOnSettleExpiry | .lastResponseByteClockedOut _ => []

/-- The bytes go no further than the frame does: a length byte above 60 is the last byte taken, and one up to 60 counts the payload
(R173). -/
def withinFrame : List Byte → Bool
  | [] => true
  | n :: payload => if Config.longestPayload < n.toNat then payload.isEmpty else decide (payload.length ≤ n.toNat)

/-- The bytes of a request end where its frame ends, or before. -/
def Instr.frameFits (i : Instr) : Bool := withinFrame (i.bytes?.getD [])

/-- A reading errs by less than half the range of a timestamp (R3). -/
def Instr.errorsFit (i : Instr) : Bool := i.errors.all fun e => decide (-(2 ^ 47) ≤ e) && decide (e < 2 ^ 47)

/-- A command the pins can carry. -/
def Instr.wellFormed (i : Instr) : Bool := i.frameFits && i.errorsFit

end Sys2Proof
end

