-- ==== Sys2Proof/Tests/Slice0.lean ====
section
/-! SUPPORT. Tests of single commands with results taken from the worked examples of the manual, the smoke tests of WellFormed, and for
each statement with premises a witness that states and operands meet them, at the boundary values of its clauses. -/

namespace Sys2Proof.Tests

open Sys2Proof Sys2Proof.Machine

/-! ### WellFormed -/

/-- A length byte of 2 and three payload bytes: the third is not the request's. -/
theorem test_wellFormed_refuses_bytes_beyond_frame : (Instr.cancel 1 [2, 0, 0, 0]).frameFits = false := by decide

/-- A length byte above 60 is the last byte taken. -/
theorem test_wellFormed_refuses_bytes_after_bad_length : (Instr.submit 1 [61, 0]).frameFits = false := by decide

/-- A reading that errs by half the range of a timestamp. -/
theorem test_wellFormed_refuses_stamping_error : (Instr.calEdge 0 0 (2 ^ 47) 0).errorsFit = false := by decide

/-- Frames that have ended, one that has not, a bad length byte alone, and the readings at both ends. -/
theorem test_wellFormed_takes_both_ends : (Instr.cancel 1 [2, 0, 0]).wellFormed = true ∧ (Instr.cancel 1 []).wellFormed = true ∧
    (Instr.cancel 1 [1]).wellFormed = true ∧ (Instr.submit 1 [61]).wellFormed = true ∧
    (Instr.calEdge 0 0 (2 ^ 47 - 1) (-(2 ^ 47))).wellFormed = true := by decide

/-! ### States for the tests -/

/-- Bytes by their values. -/
def bytes (l : List Nat) : List Byte := l.map (BitVec.ofNat 8)

/-- The part after power-on with every port RECEIVING. -/
def ready : State := { State.reset with
  settled := true
  ports := Vector.replicate 4 ⟨.receiving, [], [], true⟩ }

/-- `ready` with the reference LOCKED and REFLOST clear. -/
def locked : State := { ready with
  ref := { State.reset.ref with state := .locked, qualified := 200000, reflost := false, source := .coarse, multiplier := .tracking }
  queues := Vector.replicate 4 ⟨[], [], false⟩ }

/-- A job of P1 on lane 4 over page 8, as 07's running example submits it, N being 9. -/
def job : Job where
  port := 1
  tag := 1041
  sequence := 0
  lane := 4
  pnom := 163840
  dRequested := 2
  dEffective := 2
  n := 9
  bands := [4]
  prioRequested := 3
  prioEffective := 2
  window := 0
  basePage := 8
  windowLength := 2
  limitSet := none
  state := .queued
  channel := none
  captured := 0
  runts := 0
  clamped := true
  raised := false
  bandShort := false
  outcome := none
  verdict := none
  result := none

/-- The handle of slot 0 in its first generation. -/
def handle : Handle := ⟨0, 0⟩

/-- `locked` with lane 4 ONLINE, P1's window 0 open and `j` in slot 0, its page held. -/
def holding (j : Job) : State := { locked with
  lanes := locked.lanes.set 4 ⟨⟨.online, .any, .rise, 2⟩, none, false, none⟩
  windows := locked.windows.set 1 (locked.windows[1].set 0 ⟨.readWrite, 8, 2⟩)
  table := locked.table.set 0 ⟨0, some j⟩
  held := locked.held.set 1 1
  pages := locked.pages.set 8 (some handle) }

/-- The job QUEUED under a hold. -/
def queued : State := { holding job with hold := .active }

/-- The job ACQUIRING on channel 0 with `k` timestamps, in coarse period 4. Its lane's filter is 2 × 4096 ticks wide and its input went high
at the period's start, so that the filter emits an edge at 8,192 ticks into the period. -/
def acquiring (k : Nat) : State :=
  let s := holding { job with state := .acquiring, channel := some 0, captured := k }
  { s with
    ref := { s.ref with counter := 4 }
    xpoint := s.xpoint.set 0 (.lane 4)
    lanes := s.lanes.set 4 ⟨⟨.online, .any, .rise, 2⟩, some 0, true, some ⟨.rise, 2, false, some 262144, []⟩⟩
    chans := s.chans.set 0
      ⟨.acquiring, some handle, 8192, 9, 2, 16384000000, k, 1, if k = 0 then none else some 8192, some 16384000000⟩ }

/-- The job in WAIT_REDUCE behind another in REDUCING, whose job is of P2 on page 20. -/
def waiting : State :=
  let s := holding { job with state := .waitReduce, captured := 9 }
  { s with
    table := s.table.set 1 ⟨0, some { job with port := 2, basePage := 20, sequence := 1, state := .reducing, captured := 9 }⟩
    held := s.held.set 2 1
    pages := s.pages.set 20 (some ⟨1, 0⟩)
    fifo := [handle]
    current := some ⟨1, 0⟩ }

/-- The job in REDUCING, with the nine timestamps of 07's running example in page 8. -/
def reducing : State :=
  let s := holding { job with state := .reducing, captured := 9 }
  { s with
    current := some handle
    mem := [(8192, 40000000000), (8193, 40000327682), (8194, 40000655361), (8195, 40000983042), (8196, 40001310720),
      (8197, 40001638403), (8198, 40001966083), (8199, 40002293760), (8200, 40002621444)] }

/-- A check running on channels 2 and 3 under a hold, its edge `k` next, in the coarse period of that edge. -/
def checking (k : Nat) : State := { locked with
  ref := { locked.ref with counter := 64 }
  hold := .active
  xpoint := #v[.none, .none, .cal, .cal]
  chans := Vector.ofFn fun c : ChannelNo =>
    { Channel.initial with
      activity := if 2 ≤ c.val then .checking else .idle
      lastTimestamp := if 2 ≤ c.val ∧ 0 < k then some 0 else none }
  verif := { Verifier.initial with running := true, mask := 12, emitted := k, scored := k - 3, nextEdge := 4194304, interval := 4194304 } }

/-- A running fill of lanes 3 to `last` with its visit of lane 3 next, the template being ONLINE. -/
def filling (last : Nat) : State := { ready with fill := ⟨true, ⟨.online, .any, .rise, 0⟩, 3, last, 3, 0, 0⟩ }

/-! ### Commands against the worked examples of the manual -/

/-- 07's running example: the figures of the nine timestamps. -/
theorem test_reduce_running_example :
    let r := reduce ([40000000000, 40000327682, 40000655361, 40000983042, 40001310720, 40001638403, 40001966083, 40002293760,
      40002621444].map (BitVec.ofNat 48)) 2 163840 [4];
    r.slips = 0 ∧ r.pjPp = 7 ∧ r.c2cMax = 7 ∧ r.mp16 = 2621444 ∧ r.fo = 1526 ∧ r.foSat = false ∧ r.pjRms16 = 36 ∧
      r.c2cRms16 = 64 ∧ r.tiePp = 5 ∧ r.tieRms16 = 24 ∧ r.fnomHz = 100000000 ∧ r.bandHiHz = 25000000 ∧
      r.bands = [⟨4, 12500000, some 19⟩] := by decide

/-- 11's worked exchange: FO_MAX of 1,000 is the first limit that fails, and the bin is FREQ. -/
theorem test_bin_running_example :
    firstFailure (binTests ((Vector.replicate 12 none).set 1 (some 1000)) 0
      (reduce (reducing.mem.map Prod.snd) 2 163840 [4])) = ⟨.freq, some .foMax, none⟩ := by decide

/-- 11's worked exchange: the handle of slot 5 in generation 3 is 0x35. -/
theorem test_handle_code : (⟨5, 3⟩ : Handle).code = 0x35 := by decide

/-- The state a command answers, or the state it was given. -/
def after (i : Instr) (s : State) : State :=
  match exec i s with
  | .next t => t
  | .fault _ | .refused _ => s

/-- A READ LANE of lane 32 is refused BAD_LANE in two bytes (R27, R173). -/
theorem test_readLane_refuses_32 : (after (.readLane 2 (framed [32])) ready).ports[2].response = [0x06, 0x00] := by decide

/-- A READ CHANNEL of an idle channel: IN_SERVICE, IDLE, no entry, no errors, and a pad byte (R179). -/
theorem test_readChannel_idle :
    (after (.readChannel 3 (framed [2])) ready).ports[3].response = bytes [0, 3, 0, 0, 0xFF, 0, 0, 0] := by decide

/-- A station may not send HOLD (R173). -/
theorem test_hold_not_permitted : (after (.hold 2 (framed [])) ready).ports[2].response = [0x04, 0x00] := by decide

/-- TAKE COMPLETION on an empty queue is answered EMPTY (R153). -/
theorem test_takeCompletion_empty : (after (.takeCompletion 1 (framed [])) ready).ports[1].response = [0x01, 0x00] := by decide

/-- CLEAR REFLOST outside LOCKED is refused REF_NOT_LOCKED (R12). -/
theorem test_clearReflost_unlocked : (after (.clearReflost 0 (framed [])) ready).ports[0].response = [0x1B, 0x00] := by decide

/-- The first REFIN edge: ACQUIRING with count 1 (R7). -/
theorem test_refin_first_edge : (after .refinRisingEdge ready).ref.state = .acquiring ∧
    (after .refinRisingEdge ready).ref.qualified = 1 := by decide

/-- A READ JOB of a free slot is refused UNKNOWN_JOB (R58). -/
theorem test_readJob_unknown : (after (.readJob 1 (framed [0x35])) ready).ports[1].response = [0x10, 0x00] := by decide

/-- A RELEASE with nothing held (R75). -/
theorem test_release_nothing_held : (after (.release 0 (framed [])) ready).ports[0].response = [0x18, 0x00] := by decide

/-- The calibration sequence starts with fourteen 0 bits and a 1 (R162). -/
theorem test_prbs_first_one : prbsBit (prbsStep^[14] (BitVec.allOnes 15)) = true ∧
    prbsBit (prbsStep^[13] (BitVec.allOnes 15)) = false := by decide

/-- The bytes of an unfinished frame are kept and counted, and the frame is taken when its last byte comes (R172). -/
theorem test_partial_frame :
    (after (.readLane 2 [1]) ready).ports[2] = ⟨.receiving, [0x07, 1], [], true⟩ ∧
      (after (.readLane 2 [1, 32]) (after (.readLane 2 [1]) ready)).ports[2] =
        ⟨.answering, [0x07, 1, 32], [0x06, 0x00], true⟩ := by decide

/-- The runts of the job and the edge qualification of lane 4. -/
def runtsAndFilter (s : State) : Option Nat × Option Qualifier := ((s.jobAt 0).map Job.runts, s.lanes[4].qualifier)

/-- A high phase one tick short of 2 × 4096 ticks is a runt, and so is the low phase after it: no edge (R21, R22). -/
theorem test_runts_emit_no_edge :
    runtsAndFilter (after (.laneInputTransition 4 9000) (after (.laneInputTransition 4 8191) (acquiring 0))) =
      (some 2, some ⟨.rise, 2, false, some (4 * 65536 + 9000), []⟩) := by decide

/-- A high phase of exactly 2 × 4096 ticks is no runt: the edge lags its transition by that width (R21). -/
theorem test_full_width_emits_edge :
    runtsAndFilter (after (.laneInputTransition 4 8192) (acquiring 0)) =
      (some 0, some ⟨.rise, 2, true, some (4 * 65536 + 8192), [4 * 65536 + 8192]⟩) := by decide

/-- The state an idle step answers, or the state it was given. -/
def idled (s : State) : State :=
  match step s with
  | .next t => t
  | .fault _ | .refused _ => s

/-- The clock stamps the filter's edge at its own instant, in the period it falls in, and restarts the timer from it (R3, R21, R88). -/
theorem test_clock_stamps_filtered_edge :
    let s := idled (acquiring 0);
    s.ref.counter = 5 ∧ s.chans[0].captured = 1 ∧ s.mem = [(8192, 4 * 65536 + 8192)] ∧
      s.chans[0].timer = some (16384000000 + 8192 - 65536) := by decide

/-- An edge before the end of the timer restarts it, and the expiry does not happen; a timer that ends first ends the job (R93). -/
theorem test_edge_or_expiry :
    let ending (r : Nat) : State := { acquiring 0 with chans := (acquiring 0).chans.set 0 { (acquiring 0).chans[0] with timer := some r } };
    (idled (ending 8193)).chans[0].captured = 1 ∧ (idled (ending 8191)).chans[0].activity = .idle := by decide

/-- 408 ns after the detector's start the clock takes the loss; a REFIN edge up to that instant prevents it, and a later one finds ABSENT
(R6, R7). -/
theorem test_refin_prevents_loss :
    let late (fine : Fine) : State := { locked with ref := { locked.ref with fine := fine, absenceEnd := 30000 } };
    (idled (late 0)).ref.state = .absent ∧ (idled (after .refinRisingEdge (late 30000))).ref.state = .locked ∧
      (after .refinRisingEdge (late 30001)).ref.state = .acquiring := by decide

/-- A detector started at the last tick of its coarse period: at the 97th coarse edge after it no expiry can come before the period's
end, and after the 98th it comes at 392 ns, the last tick of the period, and no sooner (R6). -/
theorem test_earliest_loss :
    let since (edges : Nat) : State := { locked with ref := { locked.ref with absenceEnd := 6684672 + 65535 - edges * 65536 } };
    (after .absenceExpiry (since 97)).ref.state = .locked ∧ (after .absenceExpiry (since 98)).ref.state = .absent ∧
      (after .absenceExpiry (since 98)).ref.fine = 65535 := by decide

/-- A state with the detector's latest end at place 8000 of the present coarse period. -/
def fadingAt8000 (s : State) : State := { s with ref := { s.ref with absenceEnd := 8000 } }

/-- 408 ns after the detector's start the reference is lost, before an edge, a lane transition or a CAL edge that comes later: at 8001 the
lane's input finds ABSENT, the edge at 8192 is not stamped, and at 8000 itself the reference is still LOCKED (R6, R9). -/
theorem test_loss_before_later_events :
    let s := fadingAt8000 (acquiring 0);
    (after (.laneInputTransition 5 8000) s).ref.state = .locked ∧ (after (.laneInputTransition 5 8001) s).ref.state = .absent ∧
      (after (.laneInputTransition 5 8001) s).ref.fine = 8001 ∧ (after (.qualifiedEdge 0 8192) s).ref.state = .absent ∧
      (after (.qualifiedEdge 0 8192) s).chans[0].captured = 0 ∧ (after (.qualifiedEdge 0 8192) (acquiring 0)).chans[0].captured = 1 := by
  decide

/-- A runt that ends after the end of its acquisition in the same coarse period is counted nowhere: after the N-th timestamp at 8192, and
after the end of the starvation timer at 100 (R22, R87, R89). The runt of `test_runts_emit_no_edge` is counted. -/
theorem test_no_runt_after_the_end :
    let ended := after (.laneInputTransition 4 9500) (after (.laneInputTransition 4 9000) (acquiring 8));
    let starving : State := { acquiring 8 with chans := (acquiring 8).chans.set 0 { (acquiring 8).chans[0] with timer := some 100 } };
    let starved := after (.laneInputTransition 4 200) starving;
    (ended.jobAt 0).map (fun j => (j.captured, j.runts)) = some (9, 0) ∧ ended.lanes[4].connected = none ∧
      (starved.ports[1], starved.jobAt 0) = (starving.ports[1], none) ∧ starved.completions 1 = [handle] ∧
      starved.queues[1].queue.map (fun q => match q with | .job _ j _ _ => some j.runts | _ => none) = [some 0] := by decide

/-- Of two jobs that a rewrite to OFFLINE ends, the older enters its queue first, though its slot is the higher (R28, R40). -/
theorem test_offline_ends_oldest_first :
    let s : State := { queued with
      table := (queued.table.set 0 ⟨0, some { job with sequence := 6 }⟩).set 1 ⟨0, some { job with sequence := 5 }⟩
      seqCounter := 7 };
    (after (.writeLane 0 (framed (bytes [4, 0, 0, 0, 0]))) s).completions 1 = [⟨1, 0⟩, ⟨0, 0⟩] := by decide

/-- 250,000,000 is reached: line time advances at that coarse edge (R4). -/
theorem test_line_time_advances :
    let s := idled { locked with ref := { locked.ref with accumulator := 249999500 } };
    s.ref.lineTime = 1 ∧ s.ref.accumulator = 524 := by decide

/-- A state outside LOCKED in which the RC divider's unit ends `left` ticks after the last coarse edge at the latest. -/
def dividing (left : Nat) : State := { ready with ref := { ready.ref with rcEnd := left } }

/-- After a loss of reference the RC divider's phase restarts: no advance comes then. One comes 0.98 / 1024 s after the phase began, in the
last tick of its coarse period here, and the clock takes it after 1.02 / 1024 s (R5). -/
theorem test_rc_line_time :
    let lost := after .absenceExpiry { locked with ref := { locked.ref with absenceEnd := 100 } };
    (after .lineTimeRcAdvance lost).ref.lineTime = 0 ∧ (after .lineTimeRcAdvance (dividing 640065536)).ref.lineTime = 0 ∧
      (after .lineTimeRcAdvance (dividing 640065535)).ref.lineTime = 1 ∧
      (after .lineTimeRcAdvance (dividing 640065535)).ref.rcEnd = 16320000000 + 65535 ∧
      (idled (dividing 65536)).ref.lineTime = 0 ∧ (idled (dividing 65535)).ref.lineTime = 1 := by decide

/-! ### Witnesses: the premises of the statements can be met -/

/-- A waiting command; an empty queue with nothing due; and one with an edge to take and a lock due. -/
theorem witness_StepRunsFrontCommand :
    ({ ready with pending := [.fillVisit] } : State).pending = .fillVisit :: [] ∧ ready.pending = [] ∧ ready.due = [] ∧
      ready.tick.ref.dueAtEdge = [] ∧ (acquiring 0).due = [(8192, .edge 0 8192)] ∧
      ({ ready with ref := { ready.ref with state := .acquiring, qualified := 200000 } } : State).due = [(0, .lock)] := by decide

theorem witness_StepRunsFrontCommand_idle : ∃ u t, (acquiring 0).pending = [] ∧
    runAll (acquiring 0).due (acquiring 0) = .next u ∧ runAll u.tick.ref.dueAtEdge u.tick = .next t :=
  ⟨_, _, rfl, rfl, rfl⟩

theorem witness_StepRunsFrontCommand_event : ∃ t, (TimedEvent.edge 0 8192).take ((acquiring 0).upTo (BitVec.ofNat 16 8192)) = .next t :=
  ⟨_, rfl⟩

/-- A starvation timer, and an absence detector, that end with the edge; and both that end one tick before it. -/
theorem witness_DueEvents :
    let ending (r : Nat) : State := { acquiring 0 with chans := (acquiring 0).chans.set 0 { (acquiring 0).chans[0] with timer := some r } };
    let fading (r : Nat) : State := { ending r with ref := { (acquiring 0).ref with absenceEnd := r } };
    (fading 8192).due = [(8192, .edge 0 8192)] ++ (8192, .starvation 0) :: [(8192, .absence)] ∧
      (fading 8192).due = [(8192, .edge 0 8192), (8192, .starvation 0)] ++ (8192, .absence) :: [] ∧
      (fading 8191).due = [] ++ (8191, .starvation 0) :: [(8191, .absence), (8192, .edge 0 8192)] ∧
      (8191, .starvation 0) ∈ (fading 8191).due ∧ (fading 8191).quietBefore 8191 := by decide

/-- The period runs on past the edge at 8192, and every kind of event does something at its place. -/
theorem witness_DueEvents_run : (∃ u, runAll ((acquiring 0).due.filter fun e => e.1 < (9000 : Fine).toNat) (acquiring 0) = .next u) ∧
    ∃ t, (TimedEvent.edge 0 8192).take ((acquiring 0).upTo (BitVec.ofNat 16 8192)) = .next t := ⟨⟨_, rfl⟩, ⟨_, rfl⟩⟩

theorem witness_CommandsLeaveQueueAndClock :
    (∃ t, exec .refinRisingEdge ready = .next t) ∧ Instr.refinRisingEdge ≠ .powerOnReset ∧ ready.verif.running = false :=
  ⟨⟨_, rfl⟩, by decide, by decide⟩

/-- Lanes without edge qualification, without a phase, and with a phase one tick short of the width, and of the width, at the edge. -/
theorem witness_CoarseEdge :
    let q (start : Option Timestamp) : Qualifier := ⟨.rise, 2, false, start, []⟩;
    let now : Timestamp := ((acquiring 0).ref.counter + 1) ++ (0 : Fine);
    (acquiring 0).lanes[(5 : LaneNo)].qualifier = none ∧ (q none).phaseStart = none ∧
      (q (some 319489)).phaseStart = some 319489 ∧ (now - 319489).toNat < 2 * 4096 ∧
      (q (some 319488)).phaseStart = some 319488 ∧ 2 * 4096 ≤ (now - 319488).toNat := by decide

/-- For the six invariants: a state that meets them all and answers a next state. -/
theorem witness_StepKeeps :
    let s : State := { queued with pending := [.refinRisingEdge] };
    s.memoryCanonical ∧ s.referenceAgrees ∧ s.queuesAgree ∧ s.linksAgree ∧ s.countsAgree ∧ s.jobsAgree ∧ s.inBounds ∧
      ∃ t, step s = .next t :=
  ⟨by decide, by decide, by decide, by decide, by decide, ⟨by decide, by decide, by decide, by decide⟩, by decide, ⟨_, rfl⟩⟩

/-- The same for a state with a channel ACQUIRING its last timestamp but one. -/
theorem witness_StepKeeps_acquiring :
    let s := acquiring 8;
    s.memoryCanonical ∧ s.referenceAgrees ∧ s.queuesAgree ∧ s.linksAgree ∧ s.countsAgree ∧ s.jobsAgree ∧ s.inBounds :=
  ⟨by decide, by decide, by decide, by decide, by decide, ⟨by decide, by decide, by decide, by decide⟩, by decide⟩

/-- The same for a state with a job in REDUCING, and for one with a job behind it. -/
theorem witness_StepKeeps_reducing :
    (reducing.memoryCanonical ∧ reducing.linksAgree ∧ reducing.countsAgree ∧ reducing.jobsAgree ∧ reducing.inBounds) ∧
      waiting.linksAgree ∧ waiting.countsAgree ∧ waiting.jobsAgree ∧ waiting.inBounds :=
  ⟨⟨by decide, by decide, by decide, ⟨by decide, by decide, by decide, by decide⟩, by decide⟩, by decide, by decide,
    ⟨by decide, by decide, by decide, by decide⟩, by decide⟩

/-- The same for a running check, one of its training edges next, and its last one. -/
theorem witness_StepKeeps_checking :
    ((checking 2).linksAgree ∧ (checking 2).countsAgree ∧ (checking 2).jobsAgree ∧ (checking 2).inBounds) ∧
      (checking 1026).linksAgree :=
  ⟨⟨by decide, by decide, ⟨by decide, by decide, by decide, by decide⟩, by decide⟩, by decide⟩

theorem witness_PortFraming :
    ready.ports[(0 : PortNo)].selected = true ∧
      (let s : State := { ready with ports := Vector.replicate 4 (.initial false) };
        s.ports[(3 : PortNo)].selected = false ∧ s.resetPin = false ∧ s.settled = true) ∧
      (State.reset.ports[(0 : PortNo)].selected = false ∧ State.reset.settled = false) ∧
      (after (.readStatus 1 (framed [])) ready).ports[(1 : PortNo)].framing = .answering ∧
      ready.ports[(1 : PortNo)].framing ≠ .answering := by decide

/-- A port that is WAITING; bytes that do not go on from those received; a frame without its length byte, and one short of its last
byte; and a whole one behind a part of it. -/
theorem witness_FrameReception :
    let half (l : List Byte) : State := { ready with ports := Vector.replicate 4 ⟨.receiving, l, [], true⟩ };
    State.reset.ports[(2 : PortNo)].framing ≠ .receiving ∧ ¬ (half [0x20]).ports[(0 : PortNo)].received <+: [0x07] ∧
      (half []).hears 0 [0x07] ∧ (60 : Byte).toNat ≤ 60 ∧ (List.replicate 59 (0 : Byte)).length < (60 : Byte).toNat ∧
      (half [0x07]).hears 0 (0x07 :: [60] ++ List.replicate 59 0) ∧ (half [0x07, 1]).hears 0 (0x07 :: framed [31]) := by decide

theorem witness_FrameTests :
    ready.hears 1 (0x02 :: framed [0]) ∧ 60 < (61 : Byte).toNat ∧ ready.hears 1 [0x02, 61] ∧
      (List.replicate 60 (0 : Byte)).length ≤ 60 ∧ (1 : PortNo) ≠ 0 ∧ (∃ r ∈ fixedRequests, 0x20 ≤ r.1.toNat) ∧
      (∃ r ∈ fixedRequests, r.1.toNat < 0x20 ∧ ([] : List Byte).length ≠ r.2.1) ∧
      (List.replicate 14 (0 : Byte)).length < 15 ∧
      (List.replicate 16 (0 : Byte)).length ≠ 15 + 2 * ((List.replicate 16 (0 : Byte)).getD 14 0).toNat :=
  ⟨by decide, by decide, by decide, by decide, by decide, ⟨(0x20, 5, .writeLane), by simp [fixedRequests], by decide⟩,
    ⟨(0x02, 1, .cancel), by simp [fixedRequests], by decide, by decide⟩, by decide, by decide⟩

theorem witness_ResponseLayout : (List.replicate 510 (0 : Byte)).length ≤ 510 ∧ 7 < 8 := by
  rw [List.length_replicate]; exact ⟨le_refl _, by decide⟩

theorem witness_ReadsChangeNothing :
    (∃ r ∈ readRequests, r = Instr.readLane) ∧ ∃ t, exec (.readLane 2 (framed [31])) ready = .next t :=
  ⟨⟨.readLane, by simp [readRequests], rfl⟩, ⟨_, rfl⟩⟩

/-- Port `p` is RECEIVING and has received nothing of its frame yet. -/
abbrev listening (s : State) (p : PortNo) : Prop := s.ports[p].framing = .receiving ∧ s.ports[p].received = []

/-- The premise on the framing that the statements about requests share, for any request: a listening port hears every frame, and so
does one that has received a part of it. -/
theorem witness_hears {s : State} {p : PortNo} (h : listening s p) (frame : List Byte) : s.hears p frame :=
  ⟨h.1, h.2 ▸ List.nil_prefix⟩

theorem witness_hears_part :
    ({ ready with ports := Vector.replicate 4 ⟨.receiving, [0x07, 1], [], true⟩ } : State).hears 2 (0x07 :: framed [31]) := by decide

theorem witness_ReadLaneAndChannel : listening ready 2 ∧ 31 < (32 : Byte).toNat ∧ (31 : Byte).toNat = (31 : LaneNo).val ∧ 3 < (4 : Byte).toNat ∧
    (3 : Byte).toNat = (3 : ChannelNo).val := by decide

theorem witness_ReadStatusAndReference : listening ready 3 := by decide

theorem witness_ReadLimitsAnswer : listening ready 1 ∧ 7 < (8 : Byte).toNat ∧
    (7 : Byte).toNat = (7 : SetNo).val := by decide

theorem witness_ReadJobAnswer :
    listening queued 1 ∧ queued.jobAt (1 : SlotNo) = none ∧
      queued.table[(0 : SlotNo)].gen ≠ (⟨0, 15⟩ : Handle).gen ∧ queued.jobAt handle.slot = some job ∧
      queued.table[handle.slot].gen = handle.gen ∧ job.port = 1 ∧ (2 : PortNo) ≠ 0 ∧ job.port ≠ 2 := by decide

theorem witness_ReadSamplesAnswer :
    listening reducing 1 ∧ (65535 : Nat) < 65536 ∧ 64 < (65 : Byte).toNat ∧
      (64 : Byte).toNat ≤ 64 ∧ 7 < (8 : Byte).toNat ∧ reducing.windows[(1 : PortNo)][(7 : WindowNo)].key = .absent ∧
      (let d := reducing.windows[(1 : PortNo)][(0 : WindowNo)];
        d.key ≠ .absent ∧ d.base + d.length ≤ 64 ∧ d.length * 1024 < 2047 + 2 ∧ 2047 + 1 ≤ d.length * 1024 ∧
          reducing.pages[(8 : PageNo)].isSome ∧ (d.base * 1024 + 0) / 1024 ≤ 8 ∧ 8 ≤ (d.base * 1024 + 0 + 1 - 1) / 1024 ∧
          ∀ q : PageNo, (d.base * 1024 + 2047) / 1024 ≤ q.val → q.val ≤ (d.base * 1024 + 2047 + 1 - 1) / 1024 →
            reducing.pages[q] = none) := by decide

/-- For ReferenceEdgesAndExpiries, ReferenceLocked and LineTimeAdvances: the reference in each of its states, the count below and at
200,000, a coarse period that ends with the 392 ns of the detector and one that ends a tick before, an edge at the detector's latest end and
a tick after it, the accumulator below and at 250,000,000. -/
theorem witness_Reference :
    let run (state : RefState) (left : Nat) : State := { ready with ref := { ready.ref with state := state, absenceEnd := left } };
    ready.ref.state = .absent ∧ locked.ref.state = .locked ∧ (∃ t, exec .refinRisingEdge locked = .next t) ∧
      (65536 ≤ (run .locked 327680).ref.absenceEnd - 262144 ∧ (run .acquiring 327679).ref.absenceEnd - 262144 < 65536 ∧
        (run .acquiring 327679).ref.state = .acquiring ∧ (run .absent 0).ref.absenceEnd - 262144 < 65536 ∧
        (run .absent 0).ref.state = .absent) ∧
      (let reached (fine : Fine) : State := { ready with ref := { ready.ref with fine := fine, absenceEnd := 100 } };
        (reached 100).quietBefore (100 : Fine).toNat ∧ ¬ (reached 101).quietBefore (101 : Fine).toNat) ∧
      (ready.quietBefore ready.ref.fine.toNat ∧ locked.quietBefore locked.ref.fine.toNat ∧ (run .acquiring 327679).quietBefore 65535 ∧
        (run .absent 0).quietBefore 0) ∧
      (let s : State := { ready with ref := { ready.ref with state := .acquiring, qualified := 200000 } };
        s.ref.state = .acquiring ∧ 200000 ≤ s.ref.qualified ∧ s.ref.reflost = true) ∧
      (let s : State := { ready with ref := { ready.ref with state := .acquiring, qualified := 199999 } };
        s.ref.state = .acquiring ∧ s.ref.qualified < 200000) ∧
      (ready.ref.state ≠ .locked ∧ 65536 ≤ (dividing 640065536).ref.rcEnd - 640000000 ∧
        (dividing 640065535).ref.rcEnd - 640000000 < 65536 ∧ (dividing 640065535).quietBefore 65535) ∧
      (let holds (k : Nat) : State := { locked with ref := { locked.ref with accumulator := k } };
        (holds 250000000).ref.state = .locked ∧ 250000000 ≤ (holds 250000000).ref.accumulator ∧
          (holds 249999999).ref.accumulator < 250000000) :=
  ⟨by decide, by decide, ⟨_, rfl⟩, by decide, by decide, by decide, by decide, by decide, by decide, by decide⟩

/-- A unit of the RC divider that ends after an absence expiry of the same coarse period. -/
theorem witness_LineTimeAdvances_later :
    let s : State := { dividing 640065535 with ref := { (dividing 640065535).ref with absenceEnd := 100 } };
    ∃ u, s.passTo (BitVec.ofNat 16 65535) = .next u ∧ u.ref.state ≠ .locked ∧ u.ref.rcEnd = s.ref.rcEnd ∧ u.quietBefore 65535 :=
  ⟨_, rfl, by decide, by decide, by decide⟩

/-- An edge a tick after the detector's latest end finds what the expiry there left. -/
theorem witness_ReferenceEdges_late :
    let s : State := { ready with ref := { ready.ref with fine := 101, absenceEnd := 100 } };
    ∃ u, s.passTo s.ref.fine = .next u ∧ u.ref.fine = s.ref.fine ∧ u.quietBefore s.ref.fine.toNat ∧ 6684672 < u.ref.absenceEnd :=
  ⟨_, rfl, by decide, by decide, by decide⟩

/-- A loss during an acquisition, under a hold pending and not, with another channel IDLE, and during a check with one not selected. -/
theorem witness_LossOfReference :
    let lost (s : State) : State := { s with ref := { s.ref with absenceEnd := 262144 } };
    let s := lost (acquiring 3);
    (s.quietBefore 0 ∧ (lost (checking 5)).quietBefore 0 ∧ s.ref.state = .locked ∧ s.ref.absenceEnd - 262144 < 65536 ∧ s.linksAgree ∧ s.jobsAgree ∧
      s.chans[(0 : ChannelNo)].activity = .acquiring ∧ s.xpoint[(0 : ChannelNo)] = .lane 4 ∧
      s.hold ≠ .pending ∧ s.chans[(1 : ChannelNo)].activity ≠ .acquiring ∧ s.verif.running = false) ∧
      ({ s with hold := .pending } : State).hold = .pending ∧
      (lost (checking 5)).ref.state = .locked ∧ (lost (checking 5)).verif.running = true ∧
      (checking 5).verif.mask.getLsbD (3 : ChannelNo).val = true ∧ (checking 5).chans[(3 : ChannelNo)].activity = .checking ∧
      (checking 5).chans[(1 : ChannelNo)].activity ≠ .acquiring ∧ (checking 5).verif.mask.getLsbD (1 : ChannelNo).val = false :=
  ⟨⟨by decide, by decide, by decide, by decide, by decide, ⟨by decide, by decide, by decide, by decide⟩, by decide⟩, by decide⟩

/-- A loss at 65535, with an edge at 8192 due before it. -/
theorem witness_LossOfReference_later :
    let s : State := { acquiring 3 with ref := { (acquiring 3).ref with absenceEnd := 327679 } };
    s.ref.absenceEnd - 262144 < 65536 ∧
      ∃ u, s.passTo (BitVec.ofNat 16 65535) = .next u ∧ u.ref.absenceEnd = s.ref.absenceEnd ∧ u.quietBefore 65535 :=
  ⟨by decide, _, rfl, by decide, by decide⟩

theorem witness_ClearReflostAndEvents :
    listening ready 0 ∧ ready.ref.state ≠ .locked ∧
      (listening locked 0 ∧ locked.ref.state = .locked ∧ locked.ref.reflost = false) ∧
      (let s : State := { locked with ref := { locked.ref with reflost := true } };
        s.ref.state = .locked ∧ s.ref.reflost = true) := by decide

theorem witness_WriteLane :
    listening ready 0 ∧ 31 < (32 : Byte).toNat ∧ 1 < (2 : Byte).toNat ∧ 3 < (4 : Byte).toNat ∧
      15 < (16 : Byte).toNat ∧ (filling 9).fill.running = true ∧ listening (filling 9) 0 ∧
      ((acquiring 0).fill.running = false ∧ (acquiring 0).lanes[(4 : LaneNo)].connected ≠ none ∧ listening (acquiring 0) 0) ∧
      ready.fill.running = false ∧ ready.lanes[(31 : LaneNo)].connected = none ∧
      (let old := ready.lanes[(31 : LaneNo)].config;
        let new : LaneConfig := ⟨.offline, .any, .fall, 15⟩;
        let owned : LaneConfig := ⟨.offline, .p3, .fall, 15⟩;
        old.state = new.state ∧ old.owner = new.owner ∧ old.owner ≠ owned.owner ∧ old.state = .offline) := by decide

theorem witness_LaneOffline :
    queued.jobAt 0 = some job ∧ job.lane = 4 ∧ job.state = .queued ∧ queued.lanes[(4 : LaneNo)].connected = none ∧ queued.lanes[(4 : LaneNo)].config.state = .online ∧
      listening queued 0 ∧ queued.fill.running = false ∧
      (let s : State := { queued with fill := ⟨true, ⟨.offline, .any, .rise, 0⟩, 4, 5, 4, 0, 0⟩ };
        s.lanes[(4 : LaneNo)].connected = none ∧ s.lanes[(4 : LaneNo)].config.state = .online ∧ s.fill.running = true ∧
          s.fill.next = (4 : LaneNo).val ∧ s.fill.next < s.fill.last ∧ s.fill.template = ⟨.offline, .any, .rise, 0⟩) := by decide

/-- Ranges at their ends; a visit of the last lane that rewrites it, one that skips it, and one that takes a lane OFFLINE. -/
theorem witness_FillLanesAndEnds :
    listening ready 0 ∧ 31 < (32 : Byte).toNat ∧ (31 : Byte).toNat ≤ 31 ∧ (30 : Byte).toNat < (31 : Byte).toNat ∧
      ready.fill.running = false ∧ (filling 9).fill.running = true ∧ listening (filling 9) 0 ∧
      (filling 3).fill.running = true ∧ (filling 3).fill.next = (3 : LaneNo).val ∧
      (filling 3).fill.next = (filling 3).fill.last ∧ (filling 3).lanes[(3 : LaneNo)].connected = none ∧
      (let last (s : State) : State := { s with fill := ⟨true, ⟨.offline, .any, .rise, 0⟩, 0, 4, 4, 4, 0⟩ };
        (last (acquiring 0)).fill.next = (4 : LaneNo).val ∧ (last (acquiring 0)).fill.next = (last (acquiring 0)).fill.last ∧
          (last (acquiring 0)).lanes[(4 : LaneNo)].connected ≠ none ∧ (last queued).lanes[(4 : LaneNo)].connected = none ∧
          (last queued).lanes[(4 : LaneNo)].config.state = .online) := by decide

theorem witness_FillVisit :
    ready.fill.running = false ∧ (filling 9).fill.running = true ∧ (filling 9).fill.next = (3 : LaneNo).val ∧
      (filling 9).fill.next < (filling 9).fill.last ∧ (filling 9).lanes[(3 : LaneNo)].connected = none ∧
      (filling 9).lanes[(3 : LaneNo)].config.state ≠ (filling 9).fill.template.state ∧
      (filling 9).fill.template.state = .online ∧
      (let s : State := { acquiring 0 with fill := ⟨true, ⟨.online, .any, .fall, 0⟩, 4, 5, 4, 0, 0⟩ };
        s.fill.running = true ∧ s.fill.next = (4 : LaneNo).val ∧ s.fill.next < s.fill.last ∧
          s.lanes[(4 : LaneNo)].connected ≠ none) ∧
      (let s : State := { queued with fill := ⟨true, ⟨.online, .any, .fall, 0⟩, 4, 5, 4, 0, 0⟩ };
        s.fill.running = true ∧ s.fill.next < s.fill.last ∧ s.lanes[(4 : LaneNo)].connected = none ∧
          s.lanes[(4 : LaneNo)].config.state = s.fill.template.state ∧
          s.lanes[(4 : LaneNo)].config.owner = s.fill.template.owner) := by decide

/-- An unconnected lane; a lane whose filter is off; a filter with no phase measured; one whose phase lasts the width; and one whose
phase ends one tick short of it, on a channel with a job. The place 0 comes before a place 1 already reached. -/
theorem witness_LaneInputTransition :
    let s := acquiring 3;
    let q : Qualifier := ⟨.rise, 2, false, some 262144, []⟩;
    let now (fine : Fine) : Timestamp := s.ref.counter ++ fine;
    let off : State := { s with lanes := s.lanes.set 4 ⟨⟨.online, .any, .rise, 0⟩, some 0, true, some ⟨.rise, 0, true, none, []⟩⟩ };
    (0 : Fine) < ({ s with ref := { s.ref with fine := 1 } } : State).ref.fine ∧ s.ref.fine ≤ 0 ∧
      s.quietBefore (8192 : Fine).toNat ∧ off.quietBefore (0 : Fine).toNat ∧ ready.quietBefore (65535 : Fine).toNat ∧
      ready.lanes[(0 : LaneNo)].qualifier = none ∧
      off.lanes[(4 : LaneNo)].qualifier = some ⟨.rise, 0, true, none, []⟩ ∧ off.lanes[(4 : LaneNo)].level = true ∧
      s.lanes[(4 : LaneNo)].qualifier = some q ∧ q.filter ≠ 0 ∧ ({ q with phaseStart := none } : Qualifier).phaseStart = none ∧
      q.phaseStart = some 262144 ∧ 2 * 4096 ≤ (now 8192 - 262144).toNat ∧ (now 8191 - 262144).toNat < 2 * 4096 ∧
      s.lanes[(4 : LaneNo)].connected = some 0 ∧ s.chans[(0 : ChannelNo)].job = some handle ∧
      (s.jobAt handle.slot).isSome := by decide

/-- The period runs on to 9000, past the edge at 8192. -/
theorem witness_passTo : ∃ u, (acquiring 3).passTo 9000 = .next u ∧ u.ref.fine = 9000 ∧ (acquiring 3).ref.fine ≤ 9000 ∧
    u.quietBefore (9000 : Fine).toNat ∧ u.chans[(0 : ChannelNo)].activity = .acquiring := ⟨_, rfl, by decide, by decide, by decide, by decide⟩

/-- A SUBMIT of `n` timestamps into window 0 by P1 on lane 4, with one band. -/
def submission (n : Nat) : List Byte :=
  bytes [0x11, 0x04, 4, 0x00, 0x80, 0x02, 0x00, 2, 0] ++ leBytes 2 n ++ bytes [3, 0, 0xFF, 1, 4, 0]

/-- `queued` before its job: lane 4 ONLINE and P1's window 0 open. -/
def openWindow : State := { queued with table := locked.table, held := locked.held, pages := locked.pages }

theorem witness_Submit :
    listening openWindow 1 ∧ (submission 2048).length ≤ 60 ∧ 15 ≤ (submission 2048).length ∧
      (submission 2048).length = 15 + 2 * ((submission 2048).getD 14 0).toNat ∧
      firstCode (openWindow.submitConditions 1 (submitFields (submission 2048))) = none ∧
      firstCode (openWindow.submitConditions 1 (submitFields (submission 2049))) = some .windowShort ∧
      firstCode (openWindow.submitConditions 1 (submitFields (submission 7))) = some .badRecipe := by decide

theorem witness_SubmitLayout : (List.replicate 22 (4 : BitVec 16)).length ≤ 22 := by decide

/-- Jobs of the three states that CANCEL ends. -/
theorem witness_Cancel :
    (queued.linksAgree ∧ queued.jobsAgree ∧ listening queued 1 ∧
      queued.jobAt handle.slot = some job ∧ queued.table[handle.slot].gen = handle.gen ∧ job.port = 1 ∧ job.state = .queued) ∧
      ((acquiring 8).linksAgree ∧ (acquiring 8).jobsAgree ∧ listening (acquiring 8) 0 ∧
        ((acquiring 8).jobAt handle.slot).any (fun j => decide (j.state = .acquiring ∧ j.channel = some 0)) = true ∧
        (acquiring 8).xpoint[(0 : ChannelNo)] = .lane 4) ∧
      waiting.linksAgree ∧ waiting.jobsAgree ∧ listening waiting 0 ∧
        (waiting.jobAt handle.slot).any (fun j => decide (j.state = .waitReduce)) = true :=
  ⟨⟨by decide, ⟨by decide, by decide, by decide, by decide⟩, by decide⟩,
    ⟨by decide, ⟨by decide, by decide, by decide, by decide⟩, by decide⟩,
    by decide, ⟨by decide, by decide, by decide, by decide⟩, by decide⟩

/-- A handle of no job, one of a past generation, another station's job, and a job too late to cancel. -/
theorem witness_Cancel_refused :
    queued.jobAt (1 : SlotNo) = none ∧ queued.table[(0 : SlotNo)].gen ≠ (⟨0, 15⟩ : Handle).gen ∧ (2 : PortNo) ≠ 0 ∧
      job.port ≠ 2 ∧ listening queued 2 ∧
      (waiting.jobAt (1 : SlotNo)).any (fun j => decide (j.port = 2 ∧ j.state = .reducing)) = true := by decide

theorem witness_DecisionRuns : ready.ref.state ≠ .locked ∧ queued.hold ≠ .running ∧
    locked.hold = .running ∧ (holding job).eligible job = true := by decide

theorem witness_FirstRankedFirst :
    (holding job).nextJob = some (0, job) ∧ (holding job).freeChannel = some 0 ∧ locked.nextJob = none := by decide

theorem witness_ArbiterSettings :
    listening ready 0 ∧ 4 < (5 : Byte).toNat ∧ (4 : Byte).toNat ≤ 4 ∧
      ready.floor ≤ (0 : Byte).toNat ∧ (3 : Byte).toNat < ({ ready with floor := 4 } : State).floor ∧ 3 < (4 : Byte).toNat ∧
      16 < (17 : Byte).toNat ∧ (3 : Byte).toNat = (3 : PortNo).val ∧ (16 : Byte).toNat ≤ 16 ∧ 1 < (2 : Byte).toNat ∧
      (checking 0).verif.running = true ∧ (checking 0).verif.mask.getLsbD 3 = true ∧ ready.verif.running = false ∧
      ready.service[(3 : ChannelNo)] = .inService ∧
      ({ ready with service := Vector.replicate 4 .suspect } : State).service[(3 : ChannelNo)] ≠ .inService := by decide

theorem witness_HoldAndRelease :
    listening ready 0 ∧ ready.hold = .running ∧
      (∀ c : ChannelNo, ready.chans[c].activity ≠ .acquiring) ∧
      ((acquiring 0).hold = .running ∧ listening (acquiring 0) 0 ∧
        ∃ c : ChannelNo, (acquiring 0).chans[c].activity = .acquiring) ∧
      (queued.hold ≠ .running ∧ queued.verif.running = false) ∧
      (checking 0).hold ≠ .running ∧ (checking 0).verif.running = true := by decide

/-- The edge that the filter emits 8,192 ticks into the period: at the dead time after the last timestamp and a tick short of it, at the
end of the timer and a tick after it; an edge that is not offered; and a count that stays below D. -/
theorem witness_QualifiedEdge :
    let s := acquiring 7;
    let x := s.chans[(0 : ChannelNo)];
    let t : Timestamp := s.ref.counter ++ (8192 : Fine);
    let q : Qualifier := ⟨.rise, 2, true, none, [t]⟩;
    ready.chans[(0 : ChannelNo)].activity ≠ .acquiring ∧
      (x.activity = .acquiring ∧ x.job = some handle ∧ (s.jobAt handle.slot).isSome ∧ s.xpoint[(0 : ChannelNo)] = .lane 4 ∧
        x.timer = some 16384000000 ∧
        (s.lanes[(4 : LaneNo)].settle (s.ref.counter ++ (s.upTo 8192).ref.fine)).qualifier = some q ∧ q.emitted.head? = some t) ∧
      q.emitted.head? ≠ some (s.ref.counter ++ (8191 : Fine)) ∧ s.quietBefore (8191 : Fine).toNat ∧ s.quietBefore (8192 : Fine).toNat ∧
      ready.quietBefore (8192 : Fine).toNat ∧
      (x.lastTimestamp = some 8192 ∧ 262144 ≤ (t - 8192).toNat ∧ ¬ 262144 ≤ (t - 8193).toNat) ∧
      (x.d ≤ min 65535 (x.decimation + 1) ∧ min 65535 (0 + 1) < x.d ∧ x.captured ≠ 0 ∧ (acquiring 0).chans[(0 : ChannelNo)].captured = 0) ∧
      s.memoryCanonical ∧ x.captured + 1 < x.n ∧ x.baseWord + x.captured < 65536 := by decide

/-- The loss at 8000 ends the acquisition before an edge at 8192, and so does an N-th timestamp at 8192 before one at 9000. -/
theorem witness_QualifiedEdge_late :
    (∃ u, (fadingAt8000 (acquiring 7)).passTo 8192 = .next u ∧ u.chans[(0 : ChannelNo)].activity ≠ .acquiring) ∧
      ∃ u, (acquiring 8).passTo 9000 = .next u ∧ u.chans[(0 : ChannelNo)].activity ≠ .acquiring ∧ u.quietBefore (9000 : Fine).toNat :=
  ⟨⟨_, rfl, by decide⟩, ⟨_, rfl, by decide, by decide⟩⟩

/-- The N-th timestamp with the unit idle, under a hold RUNNING and one pending. -/
theorem witness_NthTimestamp :
    (let s := acquiring 8;
      let x := s.chans[(0 : ChannelNo)];
      let t : Timestamp := s.ref.counter ++ (8192 : Fine);
      (s.memoryCanonical ∧ s.linksAgree ∧ s.jobsAgree ∧ s.inBounds) ∧ x.job = some handle ∧
        (s.jobAt handle.slot).isSome ∧ s.xpoint[(0 : ChannelNo)] = .lane 4 ∧ x.timer = some 16384000000 ∧
        (s.lanes[(4 : LaneNo)].settle (s.ref.counter ++ (s.upTo 8192).ref.fine)).qualifier = some ⟨.rise, 2, true, none, [t]⟩ ∧
        x.captured + 1 = x.n ∧ x.lastTimestamp = some 8192 ∧ 262144 ≤ (t - 8192).toNat ∧ x.d ≤ min 65535 (x.decimation + 1) ∧
        s.current = none ∧ s.hold = .running ∧ s.quietBefore (8192 : Fine).toNat) ∧
      (let s : State := { acquiring 8 with hold := .pending };
        (s.memoryCanonical ∧ s.linksAgree ∧ s.jobsAgree ∧ s.inBounds) ∧ s.hold ≠ .running) :=
  ⟨⟨⟨by decide, by decide, ⟨by decide, by decide, by decide, by decide⟩, by decide⟩, by decide⟩,
    ⟨by decide, by decide, ⟨by decide, by decide, by decide, by decide⟩, by decide⟩, by decide⟩

/-- The N-th timestamp while another job is in REDUCING. -/
theorem witness_NthTimestamp_behind :
    let s : State := { acquiring 8 with
      table := (acquiring 8).table.set 1
        ⟨0, some { job with port := 2, basePage := 20, sequence := 1, state := .reducing, captured := 9 }⟩
      pages := (acquiring 8).pages.set 20 (some ⟨1, 0⟩)
      current := some ⟨1, 0⟩ };
    s.memoryCanonical ∧ s.linksAgree ∧ s.jobsAgree ∧ s.inBounds ∧ s.current ≠ none :=
  ⟨by decide, by decide, ⟨by decide, by decide, by decide, by decide⟩, by decide, by decide⟩

/-- A channel that is not ACQUIRING; a timer that ends in this coarse period, and one that ends at its end. -/
theorem witness_StarvationExpiry :
    let ending (r : Nat) : State := { acquiring 8 with chans := (acquiring 8).chans.set 0 { (acquiring 8).chans[0] with timer := some r } };
    ready.chans[(0 : ChannelNo)].timer = none ∧ (ending 8192).linksAgree ∧ (ending 8192).jobsAgree ∧
      (ending 8192).chans[(0 : ChannelNo)].job = some handle ∧ ((ending 8192).jobAt handle.slot).isSome ∧
      (ending 8192).xpoint[(0 : ChannelNo)] = .lane 4 ∧ (ending 8192).chans[(0 : ChannelNo)].timer = some 8192 ∧ 65535 < 65536 ∧
      (ending 65536).chans[(0 : ChannelNo)].timer = some 65536 ∧ (ending 8192).quietBefore 8192 :=
  ⟨by decide, by decide, ⟨by decide, by decide, by decide, by decide⟩, by decide, by decide, by decide, by decide, by decide, by decide,
    by decide⟩

/-- Before the end of a timer at 8193 an edge restarts it, or ends the acquisition; before one at 8192 nothing does. -/
theorem witness_StarvationExpiry_late :
    let ending (n r : Nat) : State := { acquiring n with chans := (acquiring n).chans.set 0 { (acquiring n).chans[0] with timer := some r } };
    (∃ u, (ending 7 8193).passTo (BitVec.ofNat 16 8193) = .next u ∧
      ∀ r', u.chans[(0 : ChannelNo)].timer = some r' → u.ref.fine.toNat < r') ∧
      (∃ u, (ending 8 65535).passTo (BitVec.ofNat 16 65535) = .next u ∧ u.chans[(0 : ChannelNo)].activity ≠ .acquiring) ∧
      ∃ u, (ending 8 8192).passTo (BitVec.ofNat 16 8192) = .next u ∧ u.chans[(0 : ChannelNo)].timer = some 8192 ∧ u.quietBefore 8192 :=
  ⟨⟨_, rfl, by decide⟩, ⟨_, rfl, by decide⟩, ⟨_, rfl, by decide, by decide⟩⟩

theorem witness_WriteWindow :
    listening ready 0 ∧ 3 < (4 : Byte).toNat ∧ 7 < (8 : Byte).toNat ∧ 2 < (3 : Byte).toNat ∧
      16 < (17 : Byte).toNat ∧ 64 < (49 : Byte).toNat + (16 : Byte).toNat ∧ (3 : Byte).toNat = (3 : PortNo).val ∧
      (7 : Byte).toNat = (7 : WindowNo).val ∧ 1 ≤ (16 : Byte).toNat ∧ (16 : Byte).toNat ≤ 16 ∧
      (48 : Byte).toNat + (16 : Byte).toNat ≤ 64 := by decide

/-- No current job; a current job with the FIFO empty; and one with another job behind it. -/
theorem witness_ReductionComplete :
    ready.current = none ∧ reducing.jobsAgree ∧ reducing.inBounds ∧ reducing.current = some handle ∧
      (reducing.jobAt handle.slot).isSome ∧ reducing.fifo = [] ∧ waiting.jobsAgree ∧ waiting.inBounds ∧
      waiting.current = some ⟨1, 0⟩ ∧ (waiting.jobAt (1 : SlotNo)).isSome ∧ waiting.fifo = handle :: [] ∧
      (waiting.jobAt handle.slot).isSome :=
  ⟨by decide, ⟨by decide, by decide, by decide, by decide⟩, by decide, by decide, by decide, by decide,
    ⟨by decide, by decide, by decide, by decide⟩, by decide⟩

theorem witness_IntervalFigures : ([0, 163840] : List Timestamp)[0]? = some 0 ∧
    ([0, 163840] : List Timestamp)[0 + 1]? = some 163840 := by decide

theorem witness_ResultRelations : 2 ≤ ([0, 163840] : List Timestamp).length ∧ (1 : Nat) ≤ 1 ∧ (1 : Nat) ≤ 40960 ∧
    (reduce [0, 163840] 1 163840 []).slips = 0 ∧ (reduce [0, 281474976710655] 1 1 []).foSat = true := by decide

theorem witness_RoundingsAndVariance : (0 : Nat) < 1 * 1 ∧ (0 : Int) < 1000000000 * ((2 : Nat) - 1 * 1) ∧
    1000000000 * (((0 : Nat) : Int) - 1 * 1) < 0 := by decide

/-- 07's running example, with its one band present. -/
theorem witness_Figures :
    3 ≤ (reducing.mem.map Prod.snd).length ∧ 1 ≤ 2 ∧ ([4] : List Nat)[0]? = some 4 ∧ 1 ≤ 4 ∧
      (reduce (reducing.mem.map Prod.snd) 2 163840 [4]).bands[0]? = some ⟨4, 12500000, some 19⟩ := by decide

theorem witness_BandEntries :
    2 ≤ ([0, 163840] : List Timestamp).length ∧ ([4] : List Nat)[0]? = some 4 ∧
      (reduce [0, 163840] 1 163840 [4]).bands[0]? = some ⟨4, 25000000, none⟩ := by decide

theorem witness_WriteLimit :
    listening ready 0 ∧ 7 < (8 : Byte).toNat ∧ 11 < (12 : Byte).toNat ∧ 1 < (2 : Byte).toNat ∧
      (7 : Byte).toNat = (7 : SetNo).val ∧ (11 : Byte).toNat = (11 : FieldNo).val ∧
      2 ^ 56 - 1 < (0x100000000000000 : BitVec 64).toNat ∧ (0xFFFFFFFFFFFFFF : BitVec 64).toNat ≤ 2 ^ 56 - 1 ∧
      ready.limits[(7 : SetNo)].state ≠ .frozen ∧
      ({ ready with limits := Vector.replicate 8 ⟨.frozen, 0, Vector.replicate 12 none⟩ } : State).limits[(7 : SetNo)].state =
        .frozen := by decide

theorem witness_FreezeAndThaw :
    listening ready 0 ∧ 7 < (8 : Byte).toNat ∧ (7 : Byte).toNat = (7 : SetNo).val ∧
      ready.limits[(7 : SetNo)].state = .empty ∧
      ({ ready with limits := Vector.replicate 8 ⟨.opened, 0, Vector.replicate 12 none⟩ } : State).limits[(7 : SetNo)].state =
        .opened ∧
      (let s : State := { ready with limits := Vector.replicate 8 ⟨.frozen, 1, Vector.replicate 12 none⟩ };
        s.limits[(7 : SetNo)].state = .frozen ∧ 0 < s.limits[(7 : SetNo)].references) ∧
      (let s : State := { ready with limits := Vector.replicate 8 ⟨.frozen, 0, Vector.replicate 12 none⟩ };
        s.limits[(7 : SetNo)].state = .frozen ∧ s.limits[(7 : SetNo)].references = 0) := by decide

/-- A result for the Binner: no slip, FO of -5. -/
def figures : Result := ⟨0, 0, 0, 0, -5, false, 0, 0, 0, 0, 0, 0, []⟩

theorem witness_BinnerOrder :
    0 < ({ figures with slips := 1 } : Result).slips ∧ figures.slips = 0 ∧
      (∀ m ∈ ((Vector.replicate 12 none).set 1 (some 4) : Vector (Option Nat) 12)[0], 0 ≤ m) ∧
      (((Vector.replicate 12 none).set 1 (some 4) : Vector (Option Nat) 12)[1] = some 4 ∧ ¬ figures.fo.natAbs ≤ 4) := by decide

/-- A queue of one record; eight records with a service record or a COMPLETE job waiting. -/
theorem witness_TakeCompletion :
    let r : Record := .service (.fill .done 0 31 32 0) 0 true false;
    let j : Job := { job with state := .complete, outcome := some .cancelled, verdict := some ⟨.aborted, none, none⟩ };
    let full (w : Waiting) : State := { holding j with queues := Vector.replicate 4 ⟨List.replicate 8 r, [w], true⟩ };
    ready.queues[(1 : PortNo)].queue = [] ∧ listening ready 1 ∧
      listening (full (.job handle)) 1 ∧
      (full (.job handle)).queues[(1 : PortNo)].queue = r :: List.replicate 7 r ∧
      (full (.job handle)).queues[(1 : PortNo)].waiting = .job handle :: [] ∧
      (full (.job handle)).jobAt handle.slot = some j ∧
      (full (.job handle)).table[handle.slot].gen = handle.gen ∧ j.state = .complete ∧
      (full (.service (.fill .done 0 31 32 0) true)).queues[(0 : PortNo)].waiting =
        .service (.fill .done 0 31 32 0) true :: [] ∧
      ({ ready with queues := Vector.replicate 4 ⟨[r], [], true⟩ } : State).queues[(3 : PortNo)].queue = r :: [] := by decide

theorem witness_RecordLayout : ∃ j r, ({ job with result := some figures } : Job) = j ∧ j.result = some r := ⟨_, _, rfl, rfl⟩

theorem witness_CheckStartAndStop :
    let held : State := { locked with hold := .active };
    listening locked 0 ∧ 15 < (16 : Byte).toNat ∧ (1023 : BitVec 16).toNat < 1024 ∧
      (15 : BitVec 16).toNat < 16 ∧ 4096 < (4097 : BitVec 16).toNat ∧
      ¬ ((15 : Byte) = 0 ∨ 15 < (15 : Byte).toNat ∨ (1024 : BitVec 16).toNat < 1024 ∨ (16 : BitVec 16).toNat < 16 ∨
        4096 < (4096 : BitVec 16).toNat) ∧
      locked.hold ≠ .active ∧ held.hold = .active ∧ held.verif.running = false ∧ held.ref.state = .locked ∧
      listening held 0 ∧ (checking 3).hold = .active ∧ (checking 3).verif.running = true ∧
      listening (checking 3) 0 ∧ ({ ready with hold := .active } : State).ref.state ≠ .locked := by decide

/-- No check; edge 2, the last training edge; edge 3, the first that scores; edge E + 1; and edge E + 2, the last. -/
theorem witness_CalEdges :
    let now (k : Nat) : Prop := (checking k).verif.running = true ∧
      (checking k).verif.nextEdge.extractLsb' 16 32 = (checking k).ref.counter ∧ (checking k).verif.emitted ≤ (checking k).verif.e + 2;
    ready.verif.running = false ∧ (checking 3).verif.nextEdge.extractLsb' 16 32 ≠ locked.ref.counter ∧
      now 2 ∧ now 3 ∧ now 1025 ∧ now 1026 ∧
      (checking 2).verif.emitted < (checking 2).verif.e + 2 ∧ 3 ≤ (checking 3).verif.emitted ∧
      (checking 3).chans[(3 : ChannelNo)].lastTimestamp = some 0 ∧ (checking 1025).verif.emitted < (checking 1025).verif.e + 2 ∧
      (checking 1026).verif.emitted = (checking 1026).verif.e + 2 ∧ (checking 1026).linksAgree ∧
      (checking 1026).verif.mask.getLsbD 3 = true ∧ (checking 1026).verif.mask.getLsbD 1 = false ∧
      (checking 2).quietBefore ((checking 2).verif.nextEdge.extractLsb' 0 16).toNat ∧
      (checking 1026).quietBefore ((checking 1026).verif.nextEdge.extractLsb' 0 16).toNat :=
  ⟨by decide, by decide, by decide, by decide, by decide, by decide, by decide, by decide, by decide, by decide, by decide,
    by decide, by decide, by decide, by decide⟩

/-- The loss at 8000 ends the check before an edge at 8001; an edge at 7999 comes before it. -/
theorem witness_CalEdges_late :
    let edgeAt (place : Nat) : State := fadingAt8000
      { checking 2 with verif := { (checking 2).verif with nextEdge := 4194304 + BitVec.ofNat 48 place } };
    (∃ u, (edgeAt 8001).passTo ((edgeAt 8001).verif.nextEdge.extractLsb' 0 16) = .next u ∧ u.verif.running = false) ∧
      ∃ u, (edgeAt 7999).passTo ((edgeAt 7999).verif.nextEdge.extractLsb' 0 16) = .next u ∧ u.verif = (edgeAt 7999).verif ∧
        u.ref.counter = (edgeAt 7999).ref.counter ∧ u.quietBefore ((edgeAt 7999).verif.nextEdge.extractLsb' 0 16).toNat :=
  ⟨⟨_, rfl, by decide⟩, ⟨_, rfl, by decide, by decide, by decide⟩⟩

/-- The premises on step numbers of PrbsPeriod at their ends. -/
theorem witness_PrbsPeriod : 13 < 14 ∧ (0 < 1 ∧ 1 < 32767) ∧ 0 < 32766 ∧ 32766 < 32767 := by decide

/-- A port with a job QUEUED, one with a job ACQUIRING, one whose reduction another job waits behind, and a port above 3. -/
theorem witness_PortReset :
    (listening queued 1 ∧ listening queued 0 ∧ queued.jobAt 0 = some job ∧ job.port = 1 ∧
      ∀ i : SlotNo, ∀ j ∈ queued.jobAt i, j.state ≠ .acquiring) ∧
      ((acquiring 3).linksAgree ∧ (acquiring 3).jobsAgree ∧ (acquiring 3).chans[(0 : ChannelNo)].job = some handle ∧
        ((acquiring 3).jobAt handle.slot).any (fun j => decide (j.port = 1 ∧ j.state = .acquiring)) = true ∧
        (acquiring 3).lanes[(4 : LaneNo)].connected = some 0 ∧ (acquiring 3).pages[(8 : PageNo)] = some handle) ∧
      (waiting.linksAgree ∧ waiting.jobsAgree ∧ waiting.current = some ⟨1, 0⟩ ∧
        (waiting.jobAt (1 : SlotNo)).any (fun j => decide (j.port = 2)) = true ∧ waiting.fifo = [handle]) ∧ 3 < (4 : Byte).toNat :=
  ⟨by decide, ⟨by decide, ⟨by decide, by decide, by decide, by decide⟩, by decide⟩,
    ⟨by decide, ⟨by decide, by decide, by decide, by decide⟩, by decide⟩, by decide⟩

end Sys2Proof.Tests
end

section
namespace Sys2Proof.LaneProofs

open Sys2Proof Sys2Proof.Machine

/-! ### Links, cut into parts that the operations keep one by one -/

/-- Lanes, Crosspoint, channels and check agree with one another, whatever the reference, the hold and the check's progress are. -/
def Wired (s : State) : Prop :=
  s.lanesMirror ∧
    (∀ c : ChannelNo, s.chans[c].activity = .idle → s.xpoint[c] = .none ∧ s.chans[c].job = none ∧ s.chans[c].timer = none) ∧
    (∀ c : ChannelNo, s.chans[c].activity = .acquiring →
      (∃ k : LaneNo, s.xpoint[c] = .lane k) ∧ s.chans[c].job.isSome ∧ s.chans[c].timer.isSome) ∧
    (∀ c : ChannelNo, s.chans[c].activity = .checking →
      s.xpoint[c] = .cal ∧ s.chans[c].job = none ∧ s.chans[c].timer = none ∧ s.verif.running = true ∧ s.verif.selects c = true) ∧
    (s.verif.running = true → ∀ c : ChannelNo, s.verif.selects c = true → s.chans[c].activity = .checking)

/-- Channels acquire only under a reference LOCKED with REFLOST clear (R90). -/
def Live (s : State) : Prop :=
  ∀ c : ChannelNo, s.chans[c].activity = .acquiring → s.ref.state = .locked ∧ s.ref.reflost = false

/-- No channel acquires in HOLD_ACTIVE (R74). -/
def Still (s : State) : Prop := s.hold = .active → ∀ c : ChannelNo, s.chans[c].activity ≠ .acquiring

/-- `linksAgree` before the hold is tested: HOLD_PENDING may have outlived its last acquisition (R76). -/
def Loose (s : State) : Prop := Wired s ∧ Live s ∧ s.checkAgrees ∧ Still s

theorem linksAgree_iff (s : State) :
    s.linksAgree ↔ Loose s ∧ (s.hold = .pending → ∃ c : ChannelNo, s.chans[c].activity = .acquiring) := by
  constructor
  · rintro ⟨mirror, chans, check, active, pending⟩
    refine ⟨⟨⟨mirror, fun c => (chans c).1, fun c hc => ?_, fun c => (chans c).2.2, fun hr => (check hr).2.2.1⟩, fun c hc => ?_,
      check, active⟩, pending⟩
    · obtain ⟨lane, job, timer, -⟩ := (chans c).2.1 hc
      exact ⟨lane, job, timer⟩
    · obtain ⟨-, -, -, lockedRef⟩ := (chans c).2.1 hc
      exact lockedRef
  · rintro ⟨⟨⟨mirror, idle, acquiring, checking, -⟩, live, check, active⟩, pending⟩
    refine ⟨mirror, fun c => ⟨idle c, fun hc => ?_, checking c⟩, check, active, pending⟩
    obtain ⟨lane, job, timer⟩ := acquiring c hc
    exact ⟨lane, job, timer, live c hc⟩

theorem Loose.of_linksAgree {s : State} (h : s.linksAgree) : Loose s := ((linksAgree_iff s).mp h).1

/-- Away from HOLD_PENDING nothing is left to test. -/
theorem Loose.linksAgree {s : State} (h : Loose s) (hold : s.hold ≠ .pending) : s.linksAgree :=
  (linksAgree_iff s).mpr ⟨h, fun hp => absurd hp hold⟩

/-- A channel that serves a job is ACQUIRING. -/
theorem Wired.acquiring_of_job {s : State} (h : Wired s) {c : ChannelNo} (hj : s.chans[c].job ≠ none) :
    s.chans[c].activity = .acquiring := by
  obtain ⟨-, idle, -, checking, -⟩ := h
  cases ha : s.chans[c].activity with
  | idle => exact absurd (idle c ha).2.1 hj
  | acquiring => rfl
  | checking => exact absurd (checking c ha).2.1 hj

/-- Outside LOCKED the reference may change as it will: no channel acquires and no check runs. -/
theorem linksAgree_setRef {s : State} (h : s.linksAgree) (hl : s.ref.state ≠ .locked) (r : RefMonitor) :
    ({ s with ref := r } : State).linksAgree := by
  obtain ⟨⟨wired, live, check, active⟩, pending⟩ := (linksAgree_iff s).mp h
  exact (linksAgree_iff _).mpr ⟨⟨wired, fun c hc => absurd (live c hc).1 hl, fun hr => absurd (check hr).2.1 hl, active⟩, pending⟩

/-! ### Connections -/

/-- A connection of a free lane and a channel without an entry keeps CONNECTED CHANNEL the mirror of the Crosspoint. -/
theorem connect_lanesMirror {s : State} {c : ChannelNo} {k : LaneNo} (h : s.lanesMirror) (hk : s.lanes[k].connected = none)
    (hc : ∀ m, s.xpoint[c] ≠ .lane m) : (s.connect c k).lanesMirror := by
  obtain ⟨mirror, running⟩ := h
  refine ⟨fun m d => ?_, fun m => ?_⟩
  · have entry := mirror m d
    have free := mirror k d
    have own := mirror m c
    have none := hc m
    simp only [State.connect, State.setEntry_lanes, State.setLane_lanes_get, State.setEntry_xpoint_get, State.setLane_xpoint]
    split <;> split <;> simp_all [-Fin.getElem_fin]
  · have := running m
    simp only [State.connect, State.setEntry_lanes, State.setLane_lanes_get]
    split <;> simp_all [-Fin.getElem_fin]

/-- A disconnection keeps CONNECTED CHANNEL the mirror of the Crosspoint. -/
theorem disconnect_lanesMirror {s : State} (h : s.lanesMirror) (c : ChannelNo) : (s.disconnect c).lanesMirror := by
  obtain ⟨mirror, running⟩ := h
  cases hx : s.xpoint[c] with
  | lane k =>
    have own := (mirror k c).mpr hx
    refine ⟨fun m d => ?_, fun m => ?_⟩
    · have entry := mirror m d
      have only := mirror m c
      have other : s.xpoint[d] = .lane k → c = d := fun hd => Option.some.inj (own.symm.trans ((mirror k d).mpr hd))
      simp only [State.disconnect, hx, State.setEntry_lanes, State.setLane_lanes_get, State.setEntry_xpoint_get, State.setLane_xpoint]
      split <;> split <;> simp_all [-Fin.getElem_fin]
    · have := running m
      simp only [State.disconnect, hx, State.setEntry_lanes, State.setLane_lanes_get]
      split <;> simp_all [-Fin.getElem_fin]
  | none | cal =>
    refine ⟨fun m d => ?_, fun m => by simpa [State.disconnect, hx] using running m⟩
    have entry := mirror m d
    simp only [State.disconnect, hx, State.setEntry_lanes, State.setEntry_xpoint_get]
    by_cases hd : c = d
    · subst hd
      simp_all [-Fin.getElem_fin]
    · simpa only [if_neg hd] using entry

/-- A disconnection empties the entry of its channel and touches no other. -/
theorem disconnect_xpoint (s : State) (c d : ChannelNo) : (s.disconnect c).xpoint[d] = if c = d then .none else s.xpoint[d] := by
  unfold State.disconnect
  split <;> simp only [State.setEntry_xpoint_get, State.setLane_xpoint]

theorem disconnect_chans (s : State) (c : ChannelNo) : (s.disconnect c).chans = s.chans := by
  obtain ⟨_, _, h⟩ := s.disconnect_frame c
  rw [h]

theorem disconnect_verif (s : State) (c : ChannelNo) : (s.disconnect c).verif = s.verif := by
  obtain ⟨_, _, h⟩ := s.disconnect_frame c
  rw [h]

/-- Where a channel that is not CHECKING is disconnected and left as an IDLE one, the wiring stays. -/
theorem Wired.retireChannel {s : State} (h : Wired s) {c : ChannelNo} {x : Channel} (hc : s.chans[c].activity ≠ .checking)
    (hx : x.activity = .idle ∧ x.job = none ∧ x.timer = none) : Wired ((s.disconnect c).setChan c x) := by
  obtain ⟨mirror, idle, acquiring, checking, selected⟩ := h
  obtain ⟨isIdle, noJob, noTimer⟩ := hx
  have self : ((s.disconnect c).setChan c x).chans[c] = x ∧ ((s.disconnect c).setChan c x).xpoint[c] = .none := by
    simp [-Fin.getElem_fin, disconnect_xpoint]
  have other {d : ChannelNo} (hd : c ≠ d) : ((s.disconnect c).setChan c x).chans[d] = s.chans[d] ∧
      ((s.disconnect c).setChan c x).xpoint[d] = s.xpoint[d] := by
    simp [-Fin.getElem_fin, disconnect_xpoint, disconnect_chans, hd]
  have verif : ((s.disconnect c).setChan c x).verif = s.verif := disconnect_verif s c
  refine ⟨disconnect_lanesMirror mirror c, fun d => ?_, fun d => ?_, fun d => ?_, fun hr d hd => ?_⟩
  · by_cases hcd : c = d
    · subst hcd
      exact fun _ => ⟨self.2, by rwa [self.1], by rwa [self.1]⟩
    · simpa only [other hcd] using idle d
  · by_cases hcd : c = d
    · subst hcd
      simp [-Fin.getElem_fin, self, isIdle]
    · simpa only [other hcd] using acquiring d
  · by_cases hcd : c = d
    · subst hcd
      simp [-Fin.getElem_fin, self, isIdle]
    · simpa only [other hcd, verif] using checking d
  · rw [verif] at hr hd
    have isChecking := selected hr d hd
    by_cases hcd : c = d
    · exact absurd (hcd ▸ isChecking) hc
    · rw [(other hcd).1, isChecking]

theorem Wired.stopChannel {s : State} (h : Wired s) {c : ChannelNo} (hc : s.chans[c].activity ≠ .checking) : Wired (s.stopChannel c) :=
  h.retireChannel hc ⟨rfl, rfl, rfl⟩

/-- A stop leaves the channel IDLE and every other as it was. -/
theorem stopChannel_chans (s : State) (c d : ChannelNo) :
    (s.stopChannel c).chans[d] = if c = d then s.chans[c].stopped else s.chans[d] := by
  rw [State.stopChannel, State.setChan_chans_get, disconnect_chans]

/-- The end of an acquisition, whatever ends it, leaves all but the test of the hold. -/
theorem Loose.retireChannel {s : State} (h : Loose s) {c : ChannelNo} {x : Channel} (hc : s.chans[c].activity = .acquiring)
    (hx : x.activity = .idle ∧ x.job = none ∧ x.timer = none) : Loose ((s.disconnect c).setChan c x) := by
  obtain ⟨wired, live, check, still⟩ := h
  obtain ⟨_, _, frame⟩ := s.disconnect_frame c
  have chans (d : ChannelNo) : ((s.disconnect c).setChan c x).chans[d] = if c = d then x else s.chans[d] := by
    rw [State.setChan_chans_get, disconnect_chans]
  have acquires (d : ChannelNo) (hd : ((s.disconnect c).setChan c x).chans[d].activity = .acquiring) :
      s.chans[d].activity = .acquiring := by
    by_cases hcd : c = d <;> simp_all [-Fin.getElem_fin]
  refine ⟨wired.retireChannel (hc ▸ by decide) hx, fun d hd => ?_, fun hr => ?_, fun ha d hd => ?_⟩
  · simpa [frame] using live d (acquires d hd)
  · have running : s.verif.running = true := by simpa [frame] using hr
    obtain ⟨active, lockedRef, selected, progress⟩ := check running
    exact absurd hc (still active c)
  · exact still (by simpa [frame] using ha) d (acquires d hd)

theorem Loose.stopChannel {s : State} (h : Loose s) {c : ChannelNo} (hc : s.chans[c].activity = .acquiring) : Loose (s.stopChannel c) :=
  h.retireChannel hc ⟨rfl, rfl, rfl⟩

theorem Loose.cutChannel {s : State} (h : Loose s) {c : ChannelNo} (hc : s.chans[c].activity = .acquiring) : Loose (s.cutChannel c) :=
  h.retireChannel hc ⟨rfl, rfl, rfl⟩

/-! ### Decisions of the arbiter and the test of the hold -/

theorem mem_freeChannel {s : State} {c : ChannelNo} (h : s.freeChannel = some c) :
    s.service[c] = .inService ∧ s.chans[c].activity = .idle := by
  simpa [State.channelFree] using List.find?_some h

/-- The first-ranked of some jobs is one of them. -/
theorem mem_of_firstRanked {s : State} {l : List (SlotNo × Job)} {x : SlotNo × Job} (h : s.firstRanked l = some x) : x ∈ l := by
  induction l generalizing x with
  | nil => cases h
  | cons y r ih =>
    unfold State.firstRanked at h
    split at h
    · cases h
      exact List.mem_cons_self
    · rename_i z hz
      split at h <;> cases h
      · exact List.mem_cons_of_mem y (ih hz)
      · exact List.mem_cons_self

theorem mem_selectJobs {s : State} {sel : SlotNo → Job → Bool} {i : SlotNo} {j : Job} :
    (i, j) ∈ s.selectJobs sel ↔ s.jobAt i = some j ∧ sel i j = true := by
  simp only [State.selectJobs, List.mem_filterMap, List.mem_finRange, true_and, Option.bind_eq_some_iff]
  constructor
  · rintro ⟨a, b, hb, hab⟩
    split at hab <;> cases hab
    exact ⟨hb, ‹_›⟩
  · rintro ⟨hj, hs⟩
    exact ⟨i, j, hj, by rw [if_pos hs]⟩

/-- The job that a decision grants next stands in its slot and is eligible. -/
theorem nextJob_eligible {s : State} {i : SlotNo} {j : Job} (h : s.nextJob = some (i, j)) :
    s.jobAt i = some j ∧ s.eligible j = true := mem_selectJobs.mp (mem_of_firstRanked h)

/-- R63's conditions, read off the test. -/
theorem eligible_iff {s : State} {j : Job} : s.eligible j = true ↔
    j.state = .queued ∧ s.ref.state = .locked ∧ s.ref.reflost = false ∧ s.hold = .running ∧ s.floor ≤ j.prioEffective ∧
      s.lanes[j.lane].config.state = .online ∧ s.lanes[j.lane].connected = none := by
  simp [State.eligible, State.grantsOpen, and_assoc]

theorem grant_chans (s : State) (c : ChannelNo) (i : SlotNo) (j : Job) (d : ChannelNo) :
    (s.grant c i j).chans[d] = if c = d then s.chans[c].granted (s.handleAt i) j s.ref.fine else s.chans[d] :=
  getElem_set_fin s.chans c d _

theorem grant_xpoint (s : State) (c : ChannelNo) (i : SlotNo) (j : Job) (d : ChannelNo) :
    (s.grant c i j).xpoint[d] = if c = d then .lane j.lane else s.xpoint[d] := getElem_set_fin s.xpoint c d _

theorem grant_lanes (s : State) (c : ChannelNo) (i : SlotNo) (j : Job) (k : LaneNo) :
    (s.grant c i j).lanes[k] = if j.lane = k
      then { s.lanes[j.lane] with connected := some c, qualifier := some s.lanes[j.lane].startQualifier } else s.lanes[k] :=
  getElem_set_fin s.lanes j.lane k _

theorem grant_table (s : State) (c : ChannelNo) (i : SlotNo) (j : Job) (m : SlotNo) :
    (s.grant c i j).table[m] = if i = m then ⟨s.table[i].gen, some { j with state := .acquiring, channel := some c }⟩ else s.table[m] :=
  getElem_set_fin s.table i m _

/-- A grant of a free channel to an eligible job keeps the agreement. -/
theorem grant_linksAgree {s : State} (h : s.linksAgree) {c : ChannelNo} {i : SlotNo} {j : Job} (hc : s.freeChannel = some c)
    (hj : s.eligible j = true) : (s.grant c i j).linksAgree := by
  obtain ⟨⟨⟨mirror, idle, acquiring, checking, selected⟩, live, check, -⟩, -⟩ := (linksAgree_iff s).mp h
  obtain ⟨-, free⟩ := mem_freeChannel hc
  obtain ⟨-, lockedRef, reflost, running, -, -, unconnected⟩ := eligible_iff.mp hj
  obtain ⟨noEntry, -, -⟩ := idle c free
  have verif : (s.grant c i j).verif = s.verif := rfl
  have noCheck : ¬ s.verif.running = true := fun hr => by simp_all [-Fin.getElem_fin]
  have wired : Wired (s.grant c i j) := by
    refine ⟨connect_lanesMirror mirror unconnected (by simp [noEntry]), fun d => ?_, fun d => ?_, fun d => ?_,
      fun hr => absurd hr noCheck⟩ <;>
      rw [grant_chans, grant_xpoint] <;> by_cases hd : c = d <;> simp_all [-Fin.getElem_fin, Channel.granted]
  refine Loose.linksAgree ⟨wired, fun _ _ => ⟨lockedRef, reflost⟩, fun hr => absurd hr noCheck, fun ha => ?_⟩ ?_
  · exact absurd (running.symm.trans ha) (by simp)
  · exact fun hp => absurd (running.symm.trans hp) (by simp)

theorem arbitrateUpTo_linksAgree (n : Nat) {s : State} (h : s.linksAgree) : (State.arbitrateUpTo n s).linksAgree := by
  induction n generalizing s with
  | zero => exact h
  | succ n ih =>
    unfold State.arbitrateUpTo
    split
    · rename_i hc hj
      exact ih (grant_linksAgree h hc (nextJob_eligible hj).2)
    · exact h

theorem arbitrate_linksAgree {s : State} (h : s.linksAgree) : s.arbitrate.linksAgree := arbitrateUpTo_linksAgree 4 h

theorem anyAcquiring_iff {s : State} : s.anyAcquiring = true ↔ ∃ c : ChannelNo, s.chans[c].activity = .acquiring := by
  simp [State.anyAcquiring]

theorem anyAcquiring_eq_false_iff {s : State} : s.anyAcquiring = false ↔ ∀ c : ChannelNo, s.chans[c].activity ≠ .acquiring := by
  simp [State.anyAcquiring]

/-- The test of the hold settles the one thing that the end of an acquisition leaves open (R76). -/
theorem Loose.testHold {s : State} (h : Loose s) : s.testHold.linksAgree := by
  obtain ⟨wired, live, check, still⟩ := h
  unfold State.testHold
  split
  · rename_i hp
    refine Loose.linksAgree ⟨wired, live, fun hr => ?_, fun _ => anyAcquiring_eq_false_iff.mp hp.2⟩ (by simp)
    exact absurd ((check hr).1.symm.trans hp.1) (by simp)
  · rename_i hp
    refine (linksAgree_iff s).mpr ⟨⟨wired, live, check, still⟩, fun hh => anyAcquiring_iff.mp ?_⟩
    exact Bool.not_eq_false _ ▸ fun ha => hp ⟨hh, ha⟩

theorem Loose.afterAcquisition {s : State} (h : Loose s) : s.afterAcquisition.linksAgree := arbitrate_linksAgree h.testHold

end Sys2Proof.LaneProofs
end

section
namespace Sys2Proof.LaneProofs

open Sys2Proof Sys2Proof.Machine

/-! ### Operations that leave the links alone -/

theorem modifyJob_linksAgree {s : State} (h : s.linksAgree) (i : SlotNo) (f : Job → Job) : (s.modifyJob i f).linksAgree := by
  obtain ⟨_, frame⟩ := s.modifyJob_frame i f
  rw [frame]
  exact h

theorem takeHead_linksAgree {s : State} (h : s.linksAgree) : s.takeHead.linksAgree := by
  obtain ⟨_, _, _, frame⟩ := s.takeHead_frame
  rw [frame]
  exact h

theorem completeJob_linksAgree {s : State} (h : s.linksAgree) (i : SlotNo) (o : EndOutcome) (v : Verdict) :
    (s.completeJob i o v).linksAgree := by
  obtain ⟨_, _, _, _, _, frame⟩ := s.completeJob_frame i o v
  rw [frame]
  exact h

theorem offerService_linksAgree {s : State} (h : s.linksAgree) (r : ServiceReport) : (s.offerService r).linksAgree := by
  obtain ⟨_, frame⟩ := s.offerService_frame r
  rw [frame]
  exact h

theorem dropHead_linksAgree {s : State} (h : s.linksAgree) (p : PortNo) (rest : List Record) : (s.dropHead p rest).linksAgree := by
  obtain ⟨_, _, _, _, frame⟩ :=
    (s.setQueue p { s.queues[p] with queue := rest }).admitWaiting_frame p s.queues[p].waiting
  rw [State.dropHead, frame]
  exact h

/-! ### Changes that the links do not see -/

/-- How far the running check has come: an edge is left, it falls in the present coarse period or within the 65 after it, and from edge 3
on every edge has scored an interval (R160, R162, R164). -/
def Progress (s : State) : Prop :=
  1024 ≤ s.verif.e ∧ s.verif.emitted < s.verif.e + 3 ∧ s.verif.scored = s.verif.emitted - 3 ∧
    (coarsePart s.verif.nextEdge - s.ref.counter).toNat ≤ 65

/-- `t` has the connections, activities, check, hold and reference of `s`. -/
structure SameLinks (s t : State) : Prop where
  lane : ∀ k : LaneNo, t.lanes[k].connected = s.lanes[k].connected ∧ t.lanes[k].qualifier.isSome = s.lanes[k].qualifier.isSome
  chan : ∀ c : ChannelNo, t.chans[c].activity = s.chans[c].activity ∧ t.chans[c].job = s.chans[c].job ∧
    t.chans[c].timer.isSome = s.chans[c].timer.isSome
  xpoint : t.xpoint = s.xpoint
  check : t.verif.running = s.verif.running ∧ t.verif.mask = s.verif.mask
  hold : t.hold = s.hold
  reference : t.ref.state = s.ref.state ∧ t.ref.reflost = s.ref.reflost

section

variable {s t : State} (same : SameLinks s t)

include same

theorem SameLinks.selects (c : ChannelNo) : t.verif.selects c = s.verif.selects c := by
  rw [Verifier.selects, same.check.2, Verifier.selects]

theorem SameLinks.timer_eq_none (c : ChannelNo) : t.chans[c].timer = none ↔ s.chans[c].timer = none := by
  rw [← Option.isNone_iff_eq_none, ← Option.isNone_iff_eq_none, ← Option.not_isSome, ← Option.not_isSome, (same.chan c).2.2]

theorem SameLinks.wired (h : Wired s) : Wired t := by
  obtain ⟨⟨mirror, qualifiers⟩, rest⟩ := h
  refine ⟨⟨fun k c => ?_, fun k => ?_⟩, ?_⟩
  · rw [(same.lane k).1, same.xpoint]
    exact mirror k c
  · rw [(same.lane k).1, (same.lane k).2]
    exact qualifiers k
  · simp only [same.chan, same.timer_eq_none, same.xpoint, same.check, same.selects]
    exact rest

/-- The agreement is about nothing but connections, activities, check, hold and reference. -/
theorem SameLinks.linksAgree (h : s.linksAgree) (progress : s.verif.running = true → Progress s → Progress t) : t.linksAgree := by
  obtain ⟨⟨wired, live, check, still⟩, pending⟩ := (linksAgree_iff s).mp h
  refine (linksAgree_iff t).mpr ⟨⟨same.wired wired, fun c hc => ?_, fun hr => ?_, fun ha c => ?_⟩, fun hp => ?_⟩
  · rw [(same.chan c).1] at hc
    rw [same.reference.1, same.reference.2]
    exact live c hc
  · rw [same.check.1] at hr
    obtain ⟨held, lockedRef, selected, rest⟩ := check hr
    simp only [same.hold, same.reference, same.selects, same.chan]
    exact ⟨held, lockedRef, selected, progress hr rest⟩
  · rw [(same.chan c).1]
    exact still (same.hold ▸ ha) c
  · simp only [same.chan]
    exact pending (same.hold ▸ hp)

end

/-- A lane may be replaced by one with the same connection whose edge qualification runs just when it did. -/
theorem setLane_linksAgree {s : State} (h : s.linksAgree) {k : LaneNo} {l : Lane} (hc : l.connected = s.lanes[k].connected)
    (hq : l.qualifier.isSome = s.lanes[k].qualifier.isSome) : (s.setLane k l).linksAgree := by
  refine SameLinks.linksAgree (s := s) ⟨fun m => ?_, fun _ => ⟨rfl, rfl, rfl⟩, rfl, ⟨rfl, rfl⟩, rfl, ⟨rfl, rfl⟩⟩ h fun _ => id
  rw [State.setLane_lanes_get]
  split
  · subst k
    exact ⟨hc, hq⟩
  · exact ⟨rfl, rfl⟩

/-- A channel may be replaced by one with the same activity and job, whose timer runs just when it did. -/
theorem setChan_linksAgree {s : State} (h : s.linksAgree) {c : ChannelNo} {x : Channel} (ha : x.activity = s.chans[c].activity)
    (hj : x.job = s.chans[c].job) (ht : x.timer.isSome = s.chans[c].timer.isSome) : (s.setChan c x).linksAgree := by
  refine SameLinks.linksAgree (s := s) ⟨fun _ => ⟨rfl, rfl⟩, fun d => ?_, rfl, ⟨rfl, rfl⟩, rfl, ⟨rfl, rfl⟩⟩ h fun _ => id
  rw [State.setChan_chans_get]
  split
  · subst c
    exact ⟨ha, hj, ht⟩
  · exact ⟨rfl, rfl, rfl⟩

/-! ### Edges, starvation and lane inputs -/

theorem countRunt_linksAgree {s : State} (h : s.linksAgree) (k : LaneNo) : (s.countRunt k).linksAgree := by
  unfold State.countRunt
  split
  · exact modifyJob_linksAgree h _ _
  · exact h

theorem inputChanges_linksAgree {s : State} (h : s.linksAgree) (k : LaneNo) : (s.inputChanges k).linksAgree := by
  unfold State.inputChanges
  dsimp only
  split
  · exact setLane_linksAgree h rfl rfl
  · rename_i q hq
    have changed := setLane_linksAgree h (k := k) (l := { s.lanes[k] with
      level := !s.lanes[k].level, qualifier := some (q.transition s.lanes[k].level s.now) }) rfl (by rw [hq]; rfl)
    split
    · exact countRunt_linksAgree changed k
    · exact changed

/-- The end of the acquisition that an ACQUIRING channel serves: the channel stops, the job and the Reduction Unit take note, the hold is
tested and the arbiter decides (R76, R87). -/
theorem finishAcquisition_linksAgree {s : State} (h : s.linksAgree) {c : ChannelNo} (hc : s.chans[c].activity = .acquiring)
    (g : Handle) : (s.finishAcquisition c g).linksAgree := by
  obtain ⟨_, modified⟩ := (s.stopChannel c).modifyJob_frame g.slot fun j => { j with state := .waitReduce, channel := none }
  unfold State.finishAcquisition
  dsimp only
  rw [modified]
  refine Loose.afterAcquisition ?_
  obtain ⟨_, _, _, taken⟩ := State.takeHead_frame { s.stopChannel c with table := _, fifo := (s.stopChannel c).fifo ++ [g] }
  rw [taken]
  exact (Loose.of_linksAgree h).stopChannel hc

theorem writeTimestamp_linksAgree {s : State} (h : s.linksAgree) {c : ChannelNo} (hc : s.chans[c].activity = .acquiring) (g : Handle)
    (t : Timestamp) : (s.writeTimestamp c g t).linksAgree := by
  have timer : s.chans[c].timer.isSome := ((h.2.1 c).2.1 hc).2.2.1
  have written : ({ s with mem := s.mem.write (s.chans[c].baseWord + s.chans[c].captured) t } : State).linksAgree := h
  exact modifyJob_linksAgree (setChan_linksAgree written (c := c) (x := s.chans[c].stamped t) rfl rfl timer.symm) _ _

theorem writeTimestamp_chans (s : State) (c : ChannelNo) (g : Handle) (t : Timestamp) :
    (s.writeTimestamp c g t).chans = s.chans.set c (s.chans[c].stamped t) := by
  unfold State.writeTimestamp
  obtain ⟨_, frame⟩ := State.modifyJob_frame ({ s with mem := s.mem.write (s.chans[c].baseWord + s.chans[c].captured) t }.setChan c
    (s.chans[c].stamped t)) g.slot fun j => { j with captured := s.chans[c].captured + 1 }
  rw [frame]
  rfl

theorem stamp_linksAgree {s u : State} {c : ChannelNo} {g : Handle} {t : Timestamp} (hu : s.stamp c g t = .next u) (h : s.linksAgree)
    (hc : s.chans[c].activity = .acquiring) : u.linksAgree := by
  have written := writeTimestamp_linksAgree h hc g t
  have acquires : (s.writeTimestamp c g t).chans[c].activity = .acquiring := by
    rw [writeTimestamp_chans, getElem_set_fin, if_pos rfl]
    exact hc
  unfold State.stamp at hu
  dsimp only at hu
  split at hu
  · cases hu
  · split at hu <;> cases hu
    · exact finishAcquisition_linksAgree written acquires g
    · exact written

theorem deliver_qualifier_isSome (l : Lane) : l.deliver.qualifier.isSome = l.qualifier.isSome := Option.isSome_map

theorem takeEdge_linksAgree {s u : State} {c : ChannelNo} {g : Handle} {k : LaneNo} {t : Timestamp}
    (hu : s.takeEdge c g k t = .next u) (h : s.linksAgree) (hc : s.chans[c].activity = .acquiring) : u.linksAgree := by
  have delivered := setLane_linksAgree h (k := k) (l := s.lanes[k].deliver) rfl (deliver_qualifier_isSome _)
  unfold State.takeEdge at hu
  dsimp only at hu
  split at hu
  · exact stamp_linksAgree hu delivered hc
  · cases hu
    exact setChan_linksAgree delivered rfl rfl rfl

theorem edgeComes_linksAgree {s u : State} {c : ChannelNo} {fine : Fine} (hu : s.edgeComes c fine = .next u) (h : s.linksAgree) :
    u.linksAgree := by
  unfold State.edgeComes at hu
  dsimp only at hu
  split at hu
  · rename_i k hc _ _
    have settled := setLane_linksAgree h (k := k) (l := s.lanes[k].settle s.now) rfl (Lane.settle_qualifier_isSome _ _)
    split at hu
    · exact takeEdge_linksAgree hu settled hc
    · cases hu
      exact h
  · cases hu
    exact h

theorem timerExpires_linksAgree {s : State} (h : s.linksAgree) (c : ChannelNo) : (s.timerExpires c).linksAgree := by
  unfold State.timerExpires
  split
  · rename_i g r hc _ _
    split
    · refine Loose.afterAcquisition ?_
      obtain ⟨_, _, _, _, _, frame⟩ := (s.stopChannel c).completeJob_frame g.slot .noEdges .aborted
      rw [frame]
      exact (Loose.of_linksAgree h).stopChannel hc
    · exact h
  · exact h

end Sys2Proof.LaneProofs
end

section
namespace Sys2Proof.LaneProofs

open Sys2Proof Sys2Proof.Machine

/-! ### Discards and cancellations -/

theorem withdraw_loose {s : State} (h : Loose s) (i : SlotNo) (j : Job) : Loose (s.withdraw i j) := by
  unfold State.withdraw
  split
  · exact h
  · exact h
  · split
    · split
      · rename_i c _ hc
        exact h.cutChannel (h.1.acquiring_of_job (by rw [hc]; simp))
      · exact h
    · exact h
  · exact h
  · split <;> exact h

/-- Only the withdrawal of an ACQUIRING job touches a channel. -/
theorem withdraw_linksAgree {s : State} (h : s.linksAgree) (i : SlotNo) {j : Job} (hj : j.state ≠ .acquiring) :
    (s.withdraw i j).linksAgree := by
  unfold State.withdraw
  split
  · exact h
  · exact h
  · exact absurd ‹_› hj
  · exact h
  · split <;> exact h

theorem releasePages_frame (s : State) (g : Handle) : ∃ pages, s.releasePages g = { s with pages } := ⟨_, rfl⟩

theorem discard_of_none {s : State} {i : SlotNo} (hj : s.jobAt i = none) : s.discard i = s := by
  rw [State.discard, hj]

theorem discard_of_some {s : State} {i : SlotNo} {j : Job} (hj : s.jobAt i = some j) :
    s.discard i = ((s.withdraw i j).releasePages (s.handleAt i)).retire i j := by
  rw [State.discard, hj]

theorem discard_loose {s : State} (h : Loose s) (i : SlotNo) : Loose (s.discard i) := by
  cases hj : s.jobAt i with
  | none => rwa [discard_of_none hj]
  | some j =>
    obtain ⟨_, _, _, frame⟩ := ((s.withdraw i j).releasePages (s.handleAt i)).retire_frame i j
    obtain ⟨_, freed⟩ := releasePages_frame (s.withdraw i j) (s.handleAt i)
    rw [discard_of_some hj, frame, freed]
    exact withdraw_loose h i j

theorem discard_linksAgree {s : State} (h : s.linksAgree) {i : SlotNo} (hi : ∀ j ∈ s.jobAt i, j.state ≠ .acquiring) :
    (s.discard i).linksAgree := by
  cases hj : s.jobAt i with
  | none => rwa [discard_of_none hj]
  | some j =>
    obtain ⟨_, _, _, frame⟩ := ((s.withdraw i j).releasePages (s.handleAt i)).retire_frame i j
    obtain ⟨_, freed⟩ := releasePages_frame (s.withdraw i j) (s.handleAt i)
    rw [discard_of_some hj, frame, freed]
    exact withdraw_linksAgree h i (hi j hj)

theorem retire_table (s : State) (i m : SlotNo) (j : Job) :
    (s.retire i j).table[m] = if i = m then ⟨s.table[i].gen + 1, none⟩ else s.table[m] := by
  obtain ⟨_, frame⟩ := (s.setSlot i ⟨s.table[i].gen + 1, none⟩).dropReference_frame j.limitSet
  rw [State.retire, frame]
  exact getElem_set_fin s.table i m _

/-- A discard frees its slot and leaves the jobs of all others. -/
theorem discard_jobAt (s : State) (i m : SlotNo) : (s.discard i).jobAt m = if i = m then none else s.jobAt m := by
  cases hj : s.jobAt i with
  | none =>
    rw [discard_of_none hj]
    split
    · subst i
      exact hj
    · rfl
  | some j =>
    obtain ⟨_, _, _, _, _, frame⟩ := s.withdraw_frame i j
    rw [discard_of_some hj, State.jobAt, retire_table, frame]
    split <;> rfl

theorem discardAll_loose (l : List SlotNo) {s : State} (h : Loose s) : Loose (l.foldl State.discard s) := by
  induction l generalizing s with
  | nil => exact h
  | cons i l ih => exact ih (discard_loose h i)

/-- Where none of the jobs discarded is ACQUIRING, no channel is touched. -/
theorem discardAll_linksAgree (l : List SlotNo) {s : State} (h : s.linksAgree)
    (hl : ∀ i ∈ l, ∀ j ∈ s.jobAt i, j.state ≠ .acquiring) : (l.foldl State.discard s).linksAgree := by
  induction l generalizing s with
  | nil => exact h
  | cons i l ih =>
    refine ih (discard_linksAgree h (hl i List.mem_cons_self)) fun m hm j hj => ?_
    rw [discard_jobAt] at hj
    split at hj
    · cases hj
    · exact hl m (List.mem_cons_of_mem i hm) j hj

theorem portReset_linksAgree {s : State} (h : s.linksAgree) (p : PortNo) : (s.portReset p).linksAgree := by
  unfold State.portReset
  dsimp only
  split
  · refine Loose.afterAcquisition ?_
    obtain ⟨_, _, _, frame⟩ :=
      (((s.oldestFirst fun _ j => decide (j.port = p)).foldl State.discard s).emptyQueue p).takeHead_frame
    rw [frame]
    exact discardAll_loose _ (Loose.of_linksAgree h)
  · rename_i hstops
    refine takeHead_linksAgree ?_
    refine discardAll_linksAgree _ h fun i hi j hj hs => hstops (List.any_eq_true.mpr ⟨i, hi, ?_⟩)
    rw [Option.mem_def.mp hj]
    exact decide_eq_true hs

theorem cancelJob_linksAgree {s : State} (h : s.linksAgree) (i : SlotNo) (j : Job) : (s.cancelJob i j).linksAgree := by
  by_cases hj : j.state = .acquiring
  · rw [State.cancelJob, hj]
    refine Loose.afterAcquisition ?_
    obtain ⟨_, _, _, _, _, frame⟩ := (s.withdraw i j).completeJob_frame i .cancelled .aborted
    rw [frame]
    exact withdraw_loose (Loose.of_linksAgree h) i j
  · have cancelled := completeJob_linksAgree (withdraw_linksAgree h i hj) i .cancelled .aborted
    unfold State.cancelJob
    dsimp only
    split
    · exact absurd ‹_› hj
    · exact takeHead_linksAgree cancelled
    · exact cancelled
    · exact cancelled
    · exact cancelled

/-! ### The check -/

theorem dropCheck_chans (s : State) (c : ChannelNo) :
    s.dropCheck.chans[c] = if s.verif.selects c then { s.chans[c] with activity := .idle } else s.chans[c] := getElem_ofFn_fin _ c

theorem dropCheck_xpoint (s : State) (c : ChannelNo) :
    s.dropCheck.xpoint[c] = if s.verif.selects c then .none else s.xpoint[c] := getElem_ofFn_fin _ c

theorem Wired.dropCheck {s : State} (h : Wired s) (running : s.verif.running = true) : Wired s.dropCheck := by
  obtain ⟨⟨mirror, qualifiers⟩, idle, acquiring, checking, selected⟩ := h
  have cal (c : ChannelNo) (hc : s.verif.selects c = true) := checking c (selected running c hc)
  refine ⟨⟨fun k c => ?_, qualifiers⟩, fun c => ?_, fun c => ?_, fun c => ?_, fun hr => absurd hr (by simp [State.dropCheck])⟩
  · rw [dropCheck_xpoint]
    refine (mirror k c).trans ?_
    split
    · rename_i hc
      rw [(cal c hc).1]
      exact ⟨fun he => (by cases he), fun he => (by cases he)⟩
    · rfl
  all_goals rw [dropCheck_chans, dropCheck_xpoint]
  · split
    · rename_i hc
      exact fun _ => ⟨rfl, (cal c hc).2.1, (cal c hc).2.2.1⟩
    · exact idle c
  · split
    · exact fun ha => by cases ha
    · exact acquiring c
  · split
    · exact fun ha => by cases ha
    · rename_i hc
      exact fun ha => absurd (checking c ha).2.2.2.2 hc

/-- A check that ends in HOLD_ACTIVE leaves its channels IDLE and no agreement broken (R165, R167). -/
theorem endCheck_linksAgree {s : State} (wired : Wired s) (running : s.verif.running = true) (active : s.hold = .active)
    (still : ∀ c : ChannelNo, s.chans[c].activity ≠ .acquiring) (o : EndOutcome) : (s.endCheck o).linksAgree := by
  have quiet (c : ChannelNo) : s.dropCheck.chans[c].activity ≠ .acquiring := by
    rw [dropCheck_chans]
    split
    · exact fun ha => by cases ha
    · exact still c
  refine offerService_linksAgree (Loose.linksAgree ⟨wired.dropCheck running, fun c hc => absurd hc (quiet c), ?_, fun _ => quiet⟩ ?_) _
  · exact fun hr => absurd hr (by simp [State.dropCheck])
  · exact fun hp => absurd (active.symm.trans hp) (by simp)

theorem stopCheck_linksAgree {s : State} (h : s.linksAgree) (running : s.verif.running = true) (o : EndOutcome) :
    (s.endCheck o).linksAgree := by
  obtain ⟨⟨wired, -, check, still⟩, -⟩ := (linksAgree_iff s).mp h
  obtain ⟨active, -⟩ := check running
  exact endCheck_linksAgree wired running active (still active) o

/-- From one instant to another at 64 coarse periods, more or less 1,024 ticks, the coarse count rises by 63 to 65 (R162). -/
theorem coarsePart_add (t : Timestamp) {n : Nat} (hn : 4193280 ≤ n ∧ n ≤ 4195328) :
    63 ≤ (coarsePart (t + BitVec.ofNat 48 n) - coarsePart t).toNat ∧ (coarsePart (t + BitVec.ofNat 48 n) - coarsePart t).toNat ≤ 65 := by
  have ht := t.isLt
  simp only [coarsePart, BitVec.toNat_sub, BitVec.extractLsb'_toNat, BitVec.toNat_add, BitVec.toNat_ofNat, Nat.shiftRight_eq_div_pow]
  omega

theorem coarsePart_append (r : BitVec 32) (f : Fine) : coarsePart (r ++ f) = r := by
  apply BitVec.eq_of_getLsbD_eq
  intro i hi
  have bit : (r ++ f).getLsbD (16 + i) = r.getLsbD i := by
    rw [BitVec.getLsbD_append, if_neg (by omega), Nat.add_sub_cancel_left]
  rw [coarsePart, BitVec.getLsbD_extractLsb', decide_eq_true hi, Bool.true_and]
  exact bit

theorem calInterval_range (b : Bool) : 4193280 ≤ calInterval b ∧ calInterval b ≤ 4195328 := by cases b <;> decide

/-- The CAL edges still to come lie in later coarse periods (R162). -/
def Ahead (s : State) : Prop := s.verif.running = true → coarsePart s.verif.nextEdge ≠ s.ref.counter

theorem startCheck_linksAgree {s : State} (h : s.linksAgree) (active : s.hold = .active) (idleCheck : ¬ s.verif.running = true)
    (lockedRef : s.ref.state = .locked) (mask : BitVec 4) {e : Nat} (he : 1024 ≤ e) (tolerance threshold : Nat) :
    (s.startCheck mask e tolerance threshold).linksAgree := by
  obtain ⟨⟨⟨⟨mirror, qualifiers⟩, idle, -, checking, -⟩, -, -, still⟩, -⟩ := (linksAgree_iff s).mp h
  let t := s.startCheck mask e tolerance threshold
  have free (c : ChannelNo) : s.chans[c].activity = .idle := by
    cases ha : s.chans[c].activity with
    | idle => rfl
    | acquiring => exact absurd ha (still active c)
    | checking => exact absurd (checking c ha).2.2.2.1 idleCheck
  have chan (c : ChannelNo) : t.chans[c] = if mask.getLsbD c.val then { s.chans[c] with activity := .checking } else s.chans[c] :=
    getElem_ofFn_fin _ c
  have entry (c : ChannelNo) : t.xpoint[c] = if mask.getLsbD c.val then .cal else s.xpoint[c] := getElem_ofFn_fin _ c
  have quiet (c : ChannelNo) : t.chans[c].activity ≠ .acquiring := by
    rw [chan]
    split
    · exact fun ha => by cases ha
    · rw [free c]
      exact fun ha => by cases ha
  have selected (c : ChannelNo) (hc : mask.getLsbD c.val = true) : t.chans[c].activity = .checking := by
    rw [chan, if_pos hc]
  have wired : Wired t := by
    refine ⟨⟨fun k c => ?_, qualifiers⟩, fun c hc => ?_, fun c hc => absurd hc (quiet c), fun c hc => ?_, fun _ => selected⟩
    · refine (mirror k c).trans ?_
      rw [entry, (idle c (free c)).1]
      split <;> exact ⟨fun he => (by cases he), fun he => (by cases he)⟩
    · have off : ¬ mask.getLsbD c.val = true := fun on => by rw [selected c on] at hc; cases hc
      rw [chan, entry, if_neg off, if_neg off]
      exact idle c (free c)
    · have on : mask.getLsbD c.val = true := by
        by_contra off
        rw [chan, if_neg off, free c] at hc
        cases hc
      rw [chan, entry, if_pos on, if_pos on]
      exact ⟨rfl, (idle c (free c)).2.1, (idle c (free c)).2.2, rfl, on⟩
  refine Loose.linksAgree (s := t) ⟨wired, fun c hc => absurd hc (quiet c), fun _ => ?_, fun _ => quiet⟩ ?_
  · refine ⟨active, lockedRef, selected, he, Nat.succ_pos _, rfl, ?_⟩
    have edge := (coarsePart_add s.now (n := Config.calBase) (by decide)).2
    rwa [State.now, coarsePart_append] at edge
  · exact fun hp => absurd (active.symm.trans hp) (by simp)

theorem emitCalEdge_sameLinks (s : State) (stamps : Vector Timestamp 4) : SameLinks s (s.emitCalEdge stamps) := by
  refine ⟨fun _ => ⟨rfl, rfl⟩, fun c => ?_, rfl, ⟨rfl, rfl⟩, rfl, ⟨rfl, rfl⟩⟩
  have chan : (s.emitCalEdge stamps).chans[c] =
    if s.xpoint[c] = .cal then { s.chans[c] with lastTimestamp := some stamps[c] } else s.chans[c] := getElem_ofFn_fin _ c
  rw [chan]
  split <;> exact ⟨rfl, rfl, rfl⟩

/-- The end of a check, DONE: nothing runs on. -/
theorem passCheck_linksAgree {s : State} (wired : Wired s) (running : s.verif.running = true) (active : s.hold = .active)
    (still : ∀ c : ChannelNo, s.chans[c].activity ≠ .acquiring) : s.passCheck.linksAgree :=
  arbitrate_linksAgree
    (endCheck_linksAgree (s := { s with service := Vector.ofFn fun c : ChannelNo => s.checkedService c }) wired running active still .done)

theorem endCheck_running (s : State) (o : EndOutcome) : (s.endCheck o).verif.running = false := by
  rw [State.endCheck, State.offerService_verif]
  rfl

theorem passCheck_running (s : State) : s.passCheck.verif.running = false := by
  rw [State.passCheck, State.arbitrate_verif]
  exact endCheck_running _ _

/-- A CAL edge keeps the agreement, and leaves no other edge in its coarse period. -/
theorem calEdgeComes_linksAgree {s : State} (h : s.linksAgree) (e0 e1 e2 e3 : Int) :
    (s.calEdgeComes e0 e1 e2 e3).linksAgree ∧ Ahead (s.calEdgeComes e0 e1 e2 e3) := by
  obtain ⟨⟨wired, -, check, still⟩, -⟩ := (linksAgree_iff s).mp h
  unfold State.calEdgeComes
  split
  · rename_i hdue
    simp only [State.calEdgeDue, Bool.and_eq_true, decide_eq_true_eq] at hdue
    obtain ⟨⟨running, left⟩, now⟩ := hdue
    obtain ⟨active, lockedRef, -, long, -, scored, -⟩ := check running
    dsimp only
    generalize Vector.ofFn (fun c : ChannelNo => erringStamp s.verif.nextEdge ([e0, e1, e2, e3].getD c.val 0)) = stamps
    have same := emitCalEdge_sameLinks s stamps
    split
    · refine ⟨passCheck_linksAgree (same.wired wired) running active fun c => ?_, fun hr => ?_⟩
      · rw [(same.chan c).1]
        exact still active c
      · rw [passCheck_running] at hr
        cases hr
    · rename_i hlast
      have more : s.verif.emitted < s.verif.e + 2 := by
        have : s.verif.emitted + 1 ≠ s.verif.e + 3 := hlast
        omega
      have next : (s.emitCalEdge stamps).verif.nextEdge = s.verif.nextEdge + BitVec.ofNat 48 (calInterval (prbsBit s.verif.prbs)) := by
        simp [State.emitCalEdge, State.afterCalEdge, more]
      have edge := coarsePart_add s.verif.nextEdge (calInterval_range (prbsBit s.verif.prbs))
      rw [← next, now] at edge
      refine ⟨same.linksAgree h fun _ _ => ⟨long, ?_, ?_, edge.2⟩, fun _ => ?_⟩
      · exact Nat.succ_lt_succ more
      · have count : (s.emitCalEdge stamps).verif.scored = if 3 ≤ s.verif.emitted then s.verif.scored + 1 else s.verif.scored := by
          simp [State.emitCalEdge, State.afterCalEdge]
        have emitted : (s.emitCalEdge stamps).verif.emitted = s.verif.emitted + 1 := rfl
        rw [count, emitted, scored]
        split <;> omega
      · intro he
        have : (s.emitCalEdge stamps).ref.counter = s.ref.counter := rfl
        rw [he, this, BitVec.sub_self] at edge
        exact absurd edge.1 (by decide)
  · rename_i hdue
    refine ⟨h, fun running now => hdue ?_⟩
    obtain ⟨-, -, -, -, left, -⟩ := check running
    simp only [State.calEdgeDue, running, left, now, decide_true, Bool.and_self]

end Sys2Proof.LaneProofs
end

section
namespace Sys2Proof.LaneProofs

open Sys2Proof Sys2Proof.Machine

/-! ### The reference -/

theorem lockReference_linksAgree {s : State} (h : s.linksAgree) : s.referenceLocks.linksAgree := by
  unfold State.referenceLocks
  split
  · rename_i hl
    exact arbitrate_linksAgree (linksAgree_setRef h (by rw [hl.1]; decide) _)
  · exact h

/-- With every ACQUIRING channel stopped the wiring stands and no channel acquires. -/
theorem stopAll_wired (l : List ChannelNo) {s : State} (h : Wired s) (hl : ∀ c ∈ l, s.chans[c].activity ≠ .checking)
    (all : ∀ c : ChannelNo, s.chans[c].activity = .acquiring → c ∈ l) :
    Wired (l.foldl State.stopChannel s) ∧ ∀ c : ChannelNo, (l.foldl State.stopChannel s).chans[c].activity ≠ .acquiring := by
  induction l generalizing s with
  | nil => exact ⟨h, fun c hc => by cases all c hc⟩
  | cons d l ih =>
    refine ih (h.stopChannel (hl d List.mem_cons_self)) (fun c hc => ?_) fun c => ?_
    · rw [stopChannel_chans]
      split
      · exact fun ha => by cases ha
      · exact hl c (List.mem_cons_of_mem d hc)
    · rw [stopChannel_chans]
      split
      · exact fun ha => by cases ha
      · exact fun ha => (List.mem_cons.mp (all c ha)).resolve_left fun he => absurd he.symm ‹_›

theorem stopAll_frame (l : List ChannelNo) (s : State) :
    ∃ lanes xpoint chans, l.foldl State.stopChannel s = { s with lanes, xpoint, chans } := by
  induction l generalizing s with
  | nil => exact ⟨_, _, _, rfl⟩
  | cons c l ih =>
    obtain ⟨_, _, _, first⟩ := s.stopChannel_frame c
    obtain ⟨k, x, ch, rest⟩ := ih (s.stopChannel c)
    exact ⟨k, x, ch, rest.trans (by rw [first])⟩

theorem endAcquisitions_frame (s : State) : ∃ lanes xpoint table held chans pages limits queues,
    s.endAcquisitions = { s with lanes, xpoint, table, held, chans, pages, limits, queues } := by
  obtain ⟨k, x, ch, stops⟩ := stopAll_frame s.acquiringChannels s
  obtain ⟨t, e, g, m, q, ends⟩ :=
    State.completeAll_frame .refLost s.acquiringJobs (s.acquiringChannels.foldl State.stopChannel s)
  exact ⟨k, x, t, e, ch, g, m, q, by rw [State.endAcquisitions, ends, stops]⟩

theorem endAcquisitions_wired {s : State} (h : Wired s) :
    Wired s.endAcquisitions ∧ ∀ c : ChannelNo, s.endAcquisitions.chans[c].activity ≠ .acquiring := by
  obtain ⟨_, _, _, _, _, ends⟩ :=
    State.completeAll_frame .refLost s.acquiringJobs (s.acquiringChannels.foldl State.stopChannel s)
  rw [State.endAcquisitions, ends]
  refine stopAll_wired s.acquiringChannels h (fun c hc => ?_) fun c hc => ?_
  · have acquires : s.chans[c].activity = .acquiring := of_decide_eq_true (List.mem_filter.mp hc).2
    rw [acquires]
    decide
  · exact List.mem_filter.mpr ⟨List.mem_finRange c, decide_eq_true hc⟩

/-- The end of a check leaves nothing running and no new acquisition. -/
theorem endCheckIfRunning_wired {s : State} (h : Wired s) (still : ∀ c : ChannelNo, s.chans[c].activity ≠ .acquiring) :
    Wired s.endCheckIfRunning ∧ (∀ c : ChannelNo, s.endCheckIfRunning.chans[c].activity ≠ .acquiring) ∧
      s.endCheckIfRunning.verif.running = false := by
  unfold State.endCheckIfRunning
  split
  · rename_i running
    obtain ⟨_, frame⟩ := s.dropCheck.offerService_frame (s.dropCheck.checkReport .refLost)
    rw [State.endCheck, frame]
    refine ⟨h.dropCheck running, fun c => ?_, rfl⟩
    show s.dropCheck.chans[c].activity ≠ .acquiring
    rw [dropCheck_chans]
    split
    · exact fun ha => by cases ha
    · exact still c
  · exact ⟨h, still, Bool.eq_false_iff.mpr ‹_›⟩

/-- A loss of reference ends every acquisition and the check, so that nothing depends on the reference any more (R9, R90, R168). -/
theorem loseReference_linksAgree {s : State} (h : s.linksAgree) : s.loseReference.linksAgree := by
  obtain ⟨⟨wired, -⟩, -⟩ := (linksAgree_iff s).mp h
  have ended := endAcquisitions_wired (s := { s with ref := s.ref.lose }.refreshAttn 0) wired
  obtain ⟨wired', still, stopped⟩ := endCheckIfRunning_wired ended.1 ended.2
  exact Loose.afterAcquisition ⟨wired', fun c hc => absurd hc (still c), fun hr => absurd (stopped.symm.trans hr) (by decide),
    fun _ => still⟩

theorem absenceExpires_linksAgree {s : State} (h : s.linksAgree) : s.absenceExpires.linksAgree := by
  unfold State.absenceExpires
  dsimp only
  split
  · exact linksAgree_setRef h (by rw [‹s.ref.state = _›]; decide) _
  · exact linksAgree_setRef h (by rw [‹s.ref.state = _›]; decide) _
  · exact loseReference_linksAgree h

theorem absenceComes_linksAgree {s : State} (h : s.linksAgree) : s.absenceComes.linksAgree := by
  unfold State.absenceComes
  split
  · exact absenceExpires_linksAgree h
  · exact h

theorem refinRises_linksAgree {s : State} (h : s.linksAgree) : s.refinRises.linksAgree := by
  unfold State.refinRises
  dsimp only
  split
  · exact linksAgree_setRef h (by rw [‹s.ref.state = _›]; decide) _
  · exact linksAgree_setRef h (by rw [‹s.ref.state = _›]; decide) _
  · exact h

theorem lineTimeAdvances_linksAgree {s : State} (h : s.linksAgree) : s.lineTimeAdvances.linksAgree := by
  unfold State.lineTimeAdvances
  split <;> exact h

theorem lineTimeRcAdvances_linksAgree {s : State} (h : s.linksAgree) : s.lineTimeRcAdvances.linksAgree := by
  unfold State.lineTimeRcAdvances
  split <;> exact h

/-! ### Lanes and the fill -/

theorem endQueuedOn_linksAgree {s : State} (h : s.linksAgree) (k : LaneNo) : (s.endQueuedOn k).linksAgree := by
  obtain ⟨_, _, _, _, _, frame⟩ := s.endQueuedOn_frame k
  rw [frame]
  exact h

theorem rewriteLane_linksAgree {s : State} (h : s.linksAgree) (k : LaneNo) (new : LaneConfig) : (s.rewriteLane k new).linksAgree := by
  have rewritten := setLane_linksAgree h (k := k) (l := { s.lanes[k] with config := new }) rfl rfl
  unfold State.rewriteLane
  dsimp only
  split <;> split
  · exact arbitrate_linksAgree (endQueuedOn_linksAgree rewritten k)
  · exact arbitrate_linksAgree rewritten
  · exact endQueuedOn_linksAgree rewritten k
  · exact rewritten

theorem visitLane_linksAgree {s : State} (h : s.linksAgree) (k : LaneNo) : (s.visitLane k).linksAgree := by
  unfold State.visitLane
  split
  · exact rewriteLane_linksAgree (s := { s with fill := { s.fill with next := s.fill.next + 1, written := s.fill.written + 1 } }) h k _
  · exact h

theorem endFill_linksAgree {s : State} (h : s.linksAgree) (o : EndOutcome) : (s.endFill o).linksAgree := by
  obtain ⟨_, _, frame⟩ := s.endFill_frame o
  rw [frame]
  exact h

theorem execFillVisit_linksAgree {s t : State} (ht : execFillVisit s = .next t) (h : s.linksAgree) : t.linksAgree := by
  unfold execFillVisit at ht
  split at ht
  · split at ht
    · split at ht <;> cases ht
      · exact endFill_linksAgree (visitLane_linksAgree h _) .done
      · exact visitLane_linksAgree h _
    · cases ht
      exact h
  · cases ht
    exact h

/-! ### Events of the part's own timers -/

theorem take_linksAgree (e : TimedEvent) {s t : State} (ht : e.take s = .next t) (h : s.linksAgree) : t.linksAgree := by
  cases e with
  | edge c fine => exact edgeComes_linksAgree ht h
  | lock =>
    cases ht
    exact lockReference_linksAgree h
  | starvation c =>
    cases ht
    exact timerExpires_linksAgree h c
  | calEdge =>
    cases ht
    exact (calEdgeComes_linksAgree h _ _ _ _).1
  | rcLineTime =>
    cases ht
    exact lineTimeRcAdvances_linksAgree h
  | absence =>
    cases ht
    exact absenceComes_linksAgree h
  | lineTime =>
    cases ht
    exact lineTimeAdvances_linksAgree h

theorem reach_linksAgree (s : State) (fine : Fine) (h : s.linksAgree) : (s.reach fine).linksAgree := h

theorem passTo_linksAgree {s t : State} {place : Fine} (ht : s.passTo place = .next t) (h : s.linksAgree) : t.linksAgree :=
  State.passTo_keeps reach_linksAgree (fun e _ _ _ => take_linksAgree e.2) ht h

/-- A command's own event, after what is due before its place. -/
theorem afterPassTo_linksAgree {s t : State} {place : Fine} {f : State → Host.Outcome State Fault Refusal}
    (ht : andThen (s.passTo place) f = .next t) (h : s.linksAgree)
    (keeps : ∀ u, u.linksAgree → f u = .next t → t.linksAgree) : t.linksAgree := by
  obtain ⟨u, hu, hf⟩ := andThen_eq_next.mp ht
  exact keeps u (passTo_linksAgree hu h) hf

/-! ### The idle step: no CAL edge is passed over -/

/-- From `s` to `t` the counter has stood still, and the check has gone on as it was or ended. -/
def LeavesCheck (s t : State) : Prop := t.ref.counter = s.ref.counter ∧ (t.verif = s.verif ∨ t.verif.running = false)

theorem LeavesCheck.ahead {s t : State} (h : LeavesCheck s t) (hs : Ahead s) : Ahead t := by
  obtain ⟨counter, same | stopped⟩ := h
  · intro hr
    rw [same, counter]
    exact hs (same ▸ hr)
  · intro hr
    rw [stopped] at hr
    cases hr

theorem writeTimestamp_frame (s : State) (c : ChannelNo) (g : Handle) (t : Timestamp) :
    ∃ table chans mem, s.writeTimestamp c g t = { s with table, chans, mem } := by
  obtain ⟨tb, frame⟩ := State.modifyJob_frame ({ s with mem := s.mem.write (s.chans[c].baseWord + s.chans[c].captured) t }.setChan c
    (s.chans[c].stamped t)) g.slot fun j => { j with captured := s.chans[c].captured + 1 }
  exact ⟨tb, _, _, frame⟩

theorem finishAcquisition_frame (s : State) (c : ChannelNo) (g : Handle) : ∃ lanes xpoint table hold chans fifo current,
    s.finishAcquisition c g = { s with lanes, xpoint, table, hold, chans, fifo, current } := by
  obtain ⟨_, _, _, stops⟩ := s.stopChannel_frame c
  obtain ⟨t, waits⟩ := (s.stopChannel c).modifyJob_frame g.slot fun j => { j with state := .waitReduce, channel := none }
  obtain ⟨_, f, u, taken⟩ :=
    State.takeHead_frame { s.stopChannel c with table := t, fifo := (s.stopChannel c).fifo ++ [g] }
  unfold State.finishAcquisition
  dsimp only
  rw [waits, taken, stops]
  obtain ⟨k, x, t', d, ch, after⟩ := State.afterAcquisition_frame { s with lanes := _, xpoint := _, table := _, chans := _, fifo := f, current := u }
  exact ⟨k, x, t', d, ch, f, u, after⟩

theorem edgeComes_frame {s u : State} {c : ChannelNo} {fine : Fine} (hu : s.edgeComes c fine = .next u) :
    ∃ lanes xpoint table hold chans mem fifo current, u = { s with lanes, xpoint, table, hold, chans, mem, fifo, current } := by
  unfold State.edgeComes at hu
  dsimp only at hu
  split at hu
  · split at hu
    · unfold State.takeEdge State.stamp at hu
      dsimp only at hu
      split at hu
      · split at hu
        · cases hu
        · split at hu <;> cases hu
          · obtain ⟨_, _, m, written⟩ := writeTimestamp_frame _ c _ _
            obtain ⟨l, x, t, d, ch, f, v, finished⟩ := finishAcquisition_frame _ c _
            exact ⟨l, x, t, d, ch, m, f, v, by rw [finished, written]; rfl⟩
          · obtain ⟨t, ch, m, written⟩ := writeTimestamp_frame _ c _ _
            exact ⟨_, _, t, _, ch, m, _, _, written⟩
      · cases hu
        exact ⟨_, _, _, _, _, _, _, _, rfl⟩
    · cases hu
      exact ⟨_, _, _, _, _, _, _, _, rfl⟩
  · cases hu
    exact ⟨_, _, _, _, _, _, _, _, rfl⟩

theorem referenceLocks_leavesCheck (s : State) : LeavesCheck s s.referenceLocks := by
  unfold State.referenceLocks
  split
  · rw [LeavesCheck, State.arbitrate_verif, State.arbitrate_ref]
    exact ⟨rfl, .inl rfl⟩
  · exact ⟨rfl, .inl rfl⟩

theorem timerExpires_leavesCheck (s : State) (c : ChannelNo) : LeavesCheck s (s.timerExpires c) := by
  unfold State.timerExpires
  split
  · split
    · simp [LeavesCheck]
    · exact ⟨rfl, .inl rfl⟩
  · exact ⟨rfl, .inl rfl⟩

theorem endCheckIfRunning_leavesCheck (s : State) : LeavesCheck s s.endCheckIfRunning := by
  unfold State.endCheckIfRunning
  split
  · exact ⟨by rw [State.endCheck_ref], .inr (endCheck_running s _)⟩
  · exact ⟨rfl, .inl rfl⟩

theorem loseReference_leavesCheck (s : State) : LeavesCheck s s.loseReference := by
  obtain ⟨_, _, _, _, _, _, _, _, ends⟩ := endAcquisitions_frame ({ s with ref := s.ref.lose }.refreshAttn 0)
  obtain ⟨counter, check⟩ := endCheckIfRunning_leavesCheck ({ s with ref := s.ref.lose }.refreshAttn 0).endAcquisitions
  rw [State.loseReference, LeavesCheck, State.afterAcquisition_verif, State.afterAcquisition_ref]
  rw [ends] at counter check ⊢
  exact ⟨counter, check⟩

theorem absenceComes_leavesCheck (s : State) : LeavesCheck s s.absenceComes := by
  unfold State.absenceComes State.absenceExpires
  dsimp only
  split
  · split
    · exact ⟨rfl, .inl rfl⟩
    · exact ⟨rfl, .inl rfl⟩
    · exact loseReference_leavesCheck { s with ref := _ }
  · exact ⟨rfl, .inl rfl⟩

/-- Every event but a CAL edge leaves the check and the counter alone. -/
theorem take_leavesCheck {e : TimedEvent} (he : e ≠ .calEdge) {s t : State} (ht : e.take s = .next t) : LeavesCheck s t := by
  cases e with
  | edge c fine =>
    obtain ⟨_, _, _, _, _, _, _, _, frame⟩ := edgeComes_frame ht
    rw [frame]
    exact ⟨rfl, .inl rfl⟩
  | lock =>
    cases ht
    exact referenceLocks_leavesCheck s
  | starvation c =>
    cases ht
    exact timerExpires_leavesCheck s c
  | calEdge => exact absurd rfl he
  | rcLineTime =>
    cases ht
    unfold State.lineTimeRcAdvances
    split <;> exact ⟨rfl, .inl rfl⟩
  | absence =>
    cases ht
    exact absenceComes_leavesCheck s
  | lineTime =>
    cases ht
    unfold State.lineTimeAdvances
    split <;> exact ⟨rfl, .inl rfl⟩

/-- After an event no CAL edge is due in the period, if none was before or the event is the edge itself. -/
theorem take_ahead {e : TimedEvent} {s t : State} (ht : e.take s = .next t) (h : s.linksAgree) (hs : Ahead s ∨ e = .calEdge) :
    Ahead t := by
  by_cases he : e = .calEdge
  · subst e
    cases ht
    exact (calEdgeComes_linksAgree h _ _ _ _).2
  · exact (take_leavesCheck he ht).ahead (hs.resolve_right he)

/-- Events taken one after another leave no CAL edge due in the period, if none was due or the edge is among them. -/
theorem runAll_ahead {l : List DueEvent} {s t : State} (ht : runAll l s = .next t) (h : s.linksAgree)
    (hs : Ahead s ∨ ∃ e ∈ l, e.2 = .calEdge) : t.linksAgree ∧ Ahead t := by
  induction l generalizing s with
  | nil =>
    cases ht
    exact ⟨h, hs.resolve_right (by simp)⟩
  | cons e r ih =>
    obtain ⟨u, hu, hr⟩ := runAll_cons ht
    refine ih hr (take_linksAgree e.2 hu h) ?_
    rcases hs with hs | ⟨d, hd, edge⟩
    · exact .inl (take_ahead hu h (.inl hs))
    · rcases List.mem_cons.mp hd with rfl | hd
      · exact .inl (take_ahead hu h (.inr edge))
      · exact .inr ⟨d, hd, edge⟩

/-- The CAL edge of the present coarse period is among the events due in it. -/
theorem ahead_or_calEdge_due {s : State} (h : s.linksAgree) : Ahead s ∨ ∃ e ∈ s.due, e.2 = .calEdge := by
  by_cases hdue : s.calEdgeDue = true
  · refine .inr ⟨((finePart s.verif.nextEdge).toNat, .calEdge), ?_, rfl⟩
    simp only [State.due, List.mem_append, List.mem_insertionSort]
    refine .inr (.inl (.inl (.inr ?_)))
    rw [State.dueCalEdge, if_pos hdue]
    exact List.mem_singleton_self _
  · refine .inl fun running now => hdue ?_
    obtain ⟨-, -, check, -⟩ := h
    obtain ⟨-, -, -, -, left, -⟩ := check running
    simp only [State.calEdgeDue, running, left, now, decide_true, Bool.and_self]

theorem tick_ref (s : State) : s.tick.ref = s.ref.tick := rfl

theorem refTick_state (r : RefMonitor) : r.tick.state = r.state := by rw [RefMonitor.tick]

theorem refTick_reflost (r : RefMonitor) : r.tick.reflost = r.reflost := by rw [RefMonitor.tick]

theorem refTick_counter (r : RefMonitor) : r.tick.counter = r.counter + 1 := by rw [RefMonitor.tick]

theorem tick_sameLinks (s : State) : SameLinks s s.tick := by
  refine ⟨fun k => ?_, fun c => ?_, s.tick_xpoint, by rw [s.tick_verif]; exact ⟨rfl, rfl⟩, s.tick_hold,
    by rw [tick_ref, refTick_state, refTick_reflost]; exact ⟨rfl, rfl⟩⟩
  · have lane : s.tick.lanes[k] = s.lanes[k].settle (s.ref.tick.counter ++ s.ref.tick.fine) := getElem_ofFn_fin _ k
    rw [lane]
    exact ⟨rfl, Lane.settle_qualifier_isSome _ _⟩
  · have chan : s.tick.chans[c] = s.chans[c].tick := getElem_ofFn_fin _ c
    rw [chan]
    exact ⟨rfl, rfl, Option.isSome_map⟩

/-- A coarse clock edge brings a CAL edge of a later period one period nearer. -/
theorem tick_linksAgree {s : State} (h : s.linksAgree) (ahead : Ahead s) : s.tick.linksAgree := by
  refine (tick_sameLinks s).linksAgree h fun running ⟨long, left, scored, near⟩ => ?_
  have later := ahead running
  rw [Progress, tick_ref, refTick_counter, State.tick_verif]
  refine ⟨long, left, scored, ?_⟩
  bv_omega

theorem idle_linksAgree {s t : State} (ht : s.idle = .next t) (h : s.linksAgree) : t.linksAgree := by
  obtain ⟨u, hu, hr⟩ := State.idle_next ht
  obtain ⟨agrees, ahead⟩ := runAll_ahead hu h (ahead_or_calEdge_due h)
  exact runAll_keeps reach_linksAgree (fun e _ _ _ => take_linksAgree e.2) hr (tick_linksAgree agrees ahead)

end Sys2Proof.LaneProofs
end

section
namespace Sys2Proof.LaneProofs

open Sys2Proof Sys2Proof.Machine

/-! ### Requests -/

/-- A reply leaves the part in a state with `P`, if it answers at all. -/
def Leaves (P : State → Prop) : Reply → Prop
  | .answer _ _ u => P u
  | .fault _ => True

/-- A request keeps the agreement where its own rule does: framing is no part of it. -/
theorem request_linksAgree {p : PortNo} {code : Byte} {bytes : List Byte} {s t : State} {run : List Byte → Reply}
    (ht : request p code bytes s run = .next t) (h : s.linksAgree) (hrun : ∀ payload, Leaves State.linksAgree (run payload)) :
    t.linksAgree := by
  rcases request_next ht with rfl | rfl | ⟨_, _, rfl⟩ | ⟨payload, -, -, _, _, u, hu, rfl⟩
  · exact h
  · exact h
  · exact h
  · have left := hrun payload
    rw [hu] at left
    exact left

/-- The same for a request whose reply does not depend on the payload. -/
theorem fixedRequest_linksAgree {p : PortNo} {code : Byte} {bytes : List Byte} {s t : State} {r : Reply}
    (ht : request p code bytes s (fun _ => r) = .next t) (h : s.linksAgree) (left : Leaves State.linksAgree r) : t.linksAgree :=
  request_linksAgree ht h fun _ => left

section

variable {s : State} (h : s.linksAgree) (p : PortNo) (payload : List Byte)

include h

theorem readLane_leaves : Leaves State.linksAgree (readLane s payload) := by
  unfold readLane
  split <;> exact h

theorem readChannel_leaves : Leaves State.linksAgree (readChannel s payload) := by
  unfold readChannel
  split <;> exact h

theorem readLimits_leaves : Leaves State.linksAgree (readLimits s payload) := by
  unfold readLimits
  split <;> exact h

theorem readJob_leaves : Leaves State.linksAgree (readJob s p payload) := by
  unfold readJob
  split
  · exact h
  · split <;> exact h

theorem readSamples_leaves : Leaves State.linksAgree (readSamples s p payload) := by
  unfold readSamples
  dsimp only
  split
  · exact h
  · split
    · exact h
    · split
      · exact h
      · split
        · exact h
        · split
          · exact h
          · split
            · trivial
            · exact h

theorem writeFloor_leaves : Leaves State.linksAgree (writeFloor s payload) := by
  unfold writeFloor
  dsimp only
  split
  · exact h
  · split
    · exact arbitrate_linksAgree (s := { s with floor := byteAt payload 0 }) h
    · exact h

theorem writeProfile_leaves : Leaves State.linksAgree (writeProfile s payload) := by
  unfold writeProfile
  split
  · exact h
  · split <;> exact h

theorem writeService_leaves : Leaves State.linksAgree (writeService s payload) := by
  unfold writeService
  split
  · rename_i c x _ _
    split
    · exact h
    · split
      · exact arbitrate_linksAgree (s := s.setService c x) h
      · exact h
  · exact h

theorem hold_leaves : Leaves State.linksAgree (succeed { s with hold := s.heldBy }) := by
  obtain ⟨mirror, chans, check, active, pending⟩ := h
  cases hs : s.hold with
  | running =>
    cases ha : s.anyAcquiring with
    | true =>
      have held : s.heldBy = .pending := by rw [State.heldBy, hs, ha]; rfl
      rw [held]
      refine ⟨mirror, chans, fun hr => ?_, fun he => ?_, fun _ => anyAcquiring_iff.mp ha⟩
      · exact absurd ((check hr).1.symm.trans hs) (by decide)
      · cases he
    | false =>
      have held : s.heldBy = .active := by rw [State.heldBy, hs, ha]; rfl
      rw [held]
      refine ⟨mirror, chans, fun hr => ?_, fun _ => anyAcquiring_eq_false_iff.mp ha, fun he => ?_⟩
      · exact absurd ((check hr).1.symm.trans hs) (by decide)
      · cases he
  | pending =>
    have held : s.heldBy = s.hold := by rw [State.heldBy, hs]
    rw [held]
    exact ⟨mirror, chans, check, active, pending⟩
  | active =>
    have held : s.heldBy = s.hold := by rw [State.heldBy, hs]
    rw [held]
    exact ⟨mirror, chans, check, active, pending⟩

theorem release_leaves : Leaves State.linksAgree (release s) := by
  unfold release
  split
  · exact h
  · split
    · exact h
    · rename_i stopped
      obtain ⟨mirror, chans, -, -⟩ := h
      refine arbitrate_linksAgree (s := { s with hold := .running }) ⟨mirror, chans, fun hr => absurd hr stopped, fun he => ?_, fun he => ?_⟩
      · cases he
      · cases he

theorem takeCompletion_leaves : Leaves State.linksAgree (takeCompletion s p) := by
  unfold takeCompletion
  split
  · exact h
  · exact dropHead_linksAgree h p _

theorem clearReflost_leaves : Leaves State.linksAgree (clearReflost s) := by
  unfold clearReflost
  split
  · exact h
  · split
    · rename_i lost
      obtain ⟨⟨wired, live, check, still⟩, pending⟩ := (linksAgree_iff s).mp h
      refine arbitrate_linksAgree (s := ({ s with ref := { s.ref with reflost := false } } : State).refreshAttn 0) ?_
      refine (linksAgree_iff _).mpr ⟨⟨wired, fun c hc => ?_, check, still⟩, pending⟩
      exact absurd (lost.symm.trans (live c hc).2) (by decide)
    · exact h

theorem checkChannels_leaves : Leaves State.linksAgree (checkChannels s payload) := by
  unfold checkChannels
  dsimp only
  split
  · exact h
  · rename_i params
    split
    · exact h
    · rename_i active
      split
      · exact h
      · rename_i stopped
        split
        · exact h
        · rename_i lockedRef
          refine startCheck_linksAgree h (not_not.mp active) stopped (not_not.mp lockedRef) _ ?_ _ _
          simp only [checkParametersOk, Bool.not_eq_true, Bool.not_eq_false', Bool.and_eq_true, decide_eq_true_eq] at params
          exact params.1.1.2

theorem stopCheck_leaves : Leaves State.linksAgree (stopCheck s) := by
  unfold stopCheck
  split
  · exact arbitrate_linksAgree (stopCheck_linksAgree h ‹_› .stopped)
  · exact h

theorem writeLane_leaves : Leaves State.linksAgree (writeLane s payload) := by
  unfold writeLane
  split
  · split
    · exact h
    · split
      · exact h
      · exact rewriteLane_linksAgree h _ _
  · exact h

theorem fillLanes_leaves : Leaves State.linksAgree (fillLanes s payload) := by
  unfold fillLanes
  dsimp only
  split
  · split
    · exact h
    · split <;> exact h
  · exact h

theorem stopFill_leaves : Leaves State.linksAgree (stopFill s) := by
  unfold stopFill
  split
  · exact endFill_linksAgree h .stopped
  · exact h

theorem accept_linksAgree (i : SlotNo) (j : Job) : (s.accept p i j).linksAgree := by
  obtain ⟨_, frame⟩ := State.addReference_frame
    (({ s with seqCounter := s.seqCounter + 1 }.setJob i j).takePages j.basePage (pagesFor j.n) (s.handleAt i)) j.limitSet
  unfold State.accept
  dsimp only
  rw [frame]
  exact h

theorem submit_leaves : Leaves State.linksAgree (submit s p payload) := by
  unfold submit
  split
  · exact h
  · exact arbitrate_linksAgree (accept_linksAgree h p _ _)

theorem cancel_leaves : Leaves State.linksAgree (cancel s p payload) := by
  unfold cancel
  split
  · exact h
  · split
    · exact h
    · split
      · exact h
      · exact cancelJob_linksAgree h _ _

theorem writeLimit_leaves : Leaves State.linksAgree (writeLimit s payload) := by
  unfold writeLimit
  split
  · split
    · exact h
    · split <;> exact h
  · exact h

theorem freeze_leaves : Leaves State.linksAgree (freeze s payload) := by
  unfold freeze
  split
  · exact h
  · split <;> exact h

theorem thaw_leaves : Leaves State.linksAgree (thaw s payload) := by
  unfold thaw
  split
  · exact h
  · split
    · exact h
    · exact h
    · split <;> exact h

theorem resetPort_leaves : Leaves State.linksAgree (resetPort s payload) := by
  unfold resetPort
  split
  · exact h
  · exact portReset_linksAgree h _

theorem writeWindow_leaves : Leaves State.linksAgree (writeWindow s payload) := by
  unfold writeWindow
  split
  · dsimp only
    split <;> exact h
  · exact h

end

/-! ### Resets, and every command -/

/-- A part whose channels are all as after a reset, in HOLD_RUNNING with no check, agrees. -/
theorem linksAgree_of_initial {s : State} (lanes : ∀ k : LaneNo, s.lanes[k].connected = none ∧ s.lanes[k].qualifier = none)
    (xpoint : ∀ c : ChannelNo, s.xpoint[c] = .none) (chans : ∀ c : ChannelNo, s.chans[c] = .initial) (hold : s.hold = .running)
    (check : s.verif.running = false) : s.linksAgree := by
  have idle (c : ChannelNo) : s.chans[c].activity = .idle := by rw [chans c]; rfl
  refine ⟨⟨fun k c => ?_, fun k => ?_⟩, fun c => ⟨fun _ => ?_, fun ha => ?_, fun ha => ?_⟩, fun hr => ?_, fun ha => ?_, fun ha => ?_⟩
  · rw [(lanes k).1, xpoint c]
    exact ⟨fun he => (by cases he), fun he => (by cases he)⟩
  · rw [(lanes k).1, (lanes k).2]
    rfl
  · rw [chans c]
    exact ⟨xpoint c, rfl, rfl⟩
  · rw [idle c] at ha
    cases ha
  · rw [idle c] at ha
    cases ha
  · rw [check] at hr
    cases hr
  · rw [hold] at ha
    cases ha
  · rw [hold] at ha
    cases ha

theorem poweredOn_lanes (s : State) (k : LaneNo) : s.poweredOn.lanes[k] = .initial s.lanes[k].level := getElem_ofFn_fin _ k

theorem poweredOn_xpoint (s : State) (c : ChannelNo) : s.poweredOn.xpoint[c] = .none := Vector.getElem_replicate c.isLt

theorem poweredOn_chans (s : State) (c : ChannelNo) : s.poweredOn.chans[c] = .initial := Vector.getElem_replicate c.isLt

theorem poweredOn_unconnected (s : State) (k : LaneNo) : s.poweredOn.lanes[k].connected = none ∧ s.poweredOn.lanes[k].qualifier = none := by
  rw [poweredOn_lanes]
  exact ⟨rfl, rfl⟩

theorem execDeviceReset_linksAgree {s t : State} (ht : execDeviceReset s = .next t) : t.linksAgree := by
  cases ht
  exact linksAgree_of_initial (poweredOn_unconnected s) (poweredOn_xpoint s) (poweredOn_chans s) rfl rfl

/-- Every command keeps the agreement. -/
theorem exec_linksAgree (i : Instr) {s t : State} (ht : exec i s = .next t) (h : s.linksAgree) : t.linksAgree := by
  cases i with
  | selectAsserted p =>
    change execSelectAsserted p s = _ at ht
    unfold execSelectAsserted at ht
    split at ht
    · cases ht; exact h
    · split at ht <;> cases ht <;> exact h
  | selectReleased p => cases ht; exact h
  | lastResponseByteClockedOut p =>
    change execLastResponseByteClockedOut p s = _ at ht
    unfold execLastResponseByteClockedOut at ht
    split at ht <;> cases ht <;> exact h
  | unknownRequest p code bytes => exact fixedRequest_linksAgree (show execUnknownRequest p code bytes s = .next t from ht) h h
  | submit p bytes => exact request_linksAgree ht h (submit_leaves h p)
  | cancel p bytes => exact request_linksAgree ht h (cancel_leaves h p)
  | readJob p bytes => exact request_linksAgree ht h (readJob_leaves h p)
  | takeCompletion p bytes => exact fixedRequest_linksAgree ht h (takeCompletion_leaves h p)
  | readStatus p bytes => exact fixedRequest_linksAgree (show execReadStatus p bytes s = .next t from ht) h h
  | readSamples p bytes => exact request_linksAgree ht h (readSamples_leaves h p)
  | readLane p bytes => exact request_linksAgree ht h (readLane_leaves h)
  | readLimits p bytes => exact request_linksAgree ht h (readLimits_leaves h)
  | readChannel p bytes => exact request_linksAgree ht h (readChannel_leaves h)
  | readReference p bytes => exact fixedRequest_linksAgree (show execReadReference p bytes s = .next t from ht) h h
  | resetOwnPort p bytes => exact fixedRequest_linksAgree (show execResetOwnPort p bytes s = .next t from ht) h (portReset_linksAgree h p)
  | resetPort p bytes => exact request_linksAgree ht h (resetPort_leaves h)
  | writeLane p bytes => exact request_linksAgree ht h (writeLane_leaves h)
  | fillLanes p bytes => exact request_linksAgree ht h (fillLanes_leaves h)
  | fillVisit => exact execFillVisit_linksAgree ht h
  | stopFill p bytes => exact fixedRequest_linksAgree ht h (stopFill_leaves h)
  | writeWindow p bytes => exact request_linksAgree ht h (writeWindow_leaves h)
  | writeProfile p bytes => exact request_linksAgree ht h (writeProfile_leaves h)
  | writeFloor p bytes => exact request_linksAgree ht h (writeFloor_leaves h)
  | writeLimit p bytes => exact request_linksAgree ht h (writeLimit_leaves h)
  | freeze p bytes => exact request_linksAgree ht h (freeze_leaves h)
  | thaw p bytes => exact request_linksAgree ht h (thaw_leaves h)
  | hold p bytes => exact fixedRequest_linksAgree (show execHold p bytes s = .next t from ht) h (hold_leaves h)
  | release p bytes => exact fixedRequest_linksAgree ht h (release_leaves h)
  | checkChannels p bytes => exact request_linksAgree ht h (checkChannels_leaves h)
  | stopCheck p bytes => exact fixedRequest_linksAgree ht h (stopCheck_leaves h)
  | writeService p bytes => exact request_linksAgree ht h (writeService_leaves h)
  | clearReflost p bytes => exact fixedRequest_linksAgree ht h (clearReflost_leaves h)
  | clearRefEvents p bytes => exact fixedRequest_linksAgree (show execClearRefEvents p bytes s = .next t from ht) h h
  | refinRisingEdge => exact afterPassTo_linksAgree ht h fun u hu hf => by cases hf; exact refinRises_linksAgree hu
  | referenceLocked => cases ht; exact lockReference_linksAgree h
  | absenceExpiry =>
    change execAbsenceExpiry s = _ at ht
    unfold execAbsenceExpiry at ht
    split at ht
    · exact afterPassTo_linksAgree ht h fun u hu hf => by cases hf; exact absenceComes_linksAgree hu
    · cases ht; exact h
  | lineTimeAdvance => cases ht; exact lineTimeAdvances_linksAgree h
  | lineTimeRcAdvance =>
    change execLineTimeRcAdvance s = _ at ht
    unfold execLineTimeRcAdvance at ht
    split at ht
    · exact afterPassTo_linksAgree ht h fun u hu hf => by cases hf; exact lineTimeRcAdvances_linksAgree hu
    · cases ht; exact h
  | laneInputTransition k fine =>
    change execLaneInputTransition k fine s = _ at ht
    unfold execLaneInputTransition at ht
    split at ht
    · cases ht; exact h
    · exact afterPassTo_linksAgree ht h fun u hu hf => by cases hf; exact inputChanges_linksAgree hu k
  | qualifiedEdge c fine => exact afterPassTo_linksAgree ht h fun u hu hf => edgeComes_linksAgree hf hu
  | starvationExpiry c =>
    change execStarvationExpiry c s = _ at ht
    unfold execStarvationExpiry at ht
    split at ht
    · split at ht
      · exact afterPassTo_linksAgree ht h fun u hu hf => by cases hf; exact timerExpires_linksAgree hu c
      · cases ht; exact h
    · cases ht; exact h
  | reductionComplete =>
    change execReductionComplete s = _ at ht
    unfold execReductionComplete at ht
    split at ht
    · cases ht; exact h
    · rename_i i j _
      split at ht
      · cases ht
      · cases ht
        exact takeHead_linksAgree (completeJob_linksAgree (s := s.setJob i _) h i .done _)
  | calEdge e0 e1 e2 e3 =>
    change execCalEdge e0 e1 e2 e3 s = _ at ht
    unfold execCalEdge at ht
    split at ht
    · exact afterPassTo_linksAgree ht h fun u hu hf => by cases hf; exact (calEdgeComes_linksAgree hu e0 e1 e2 e3).1
    · cases ht; exact h
  | deviceReset => exact execDeviceReset_linksAgree ht
  | deviceResetRelease => cases ht; exact h
  | powerOnReset => 
    cases ht
    exact linksAgree_of_initial (poweredOn_unconnected s) (poweredOn_xpoint s) (poweredOn_chans s) rfl rfl
  | powerOnSettleExpiry => cases ht; exact h

/-- Settles O10: every command keeps the agreement, and so does the idle step, which passes no CAL edge over. -/
theorem stepKeepsLinks : Obligations.StepKeepsLinks := by
  intro s t h ht
  unfold step at ht
  split at ht
  · exact exec_linksAgree _ ht h
  · exact idle_linksAgree ht h

end Sys2Proof.LaneProofs
end

section
namespace Sys2Proof.LaneProofs

open Sys2Proof Sys2Proof.Machine

/-! ### Whole frames and their bytes -/

/-- A request whose rule answers its payload is taken, whatever part of its frame has come before (R172, R173). -/
theorem takes_of_run {s t : State} {name : PortNo → List Byte → Instr} {code : Byte} {p : PortNo} {payload body : List Byte}
    {status : Status} {run : List Byte → Reply}
    (meaning : exec (name p (framed payload)) s = request p code (framed payload) s run) (short : payload.length ≤ 60)
    (passes : frameRefusal p code payload = none) (answers : run payload = .answer status body t) :
    s.takes name code p payload t status body := by
  rintro ⟨receiving, received⟩
  rw [meaning, request_answers receiving received (frameState_whole payload short) passes answers, List.take_of_length_le (by simp [framed])]
  rfl

@[simp] theorem byteAt_cons_zero (b : Byte) (r : List Byte) : byteAt (b :: r) 0 = b.toNat := by
  simp [byteAt, field, leValue]

@[simp] theorem byteAt_cons_succ (b : Byte) (r : List Byte) (n : Nat) : byteAt (b :: r) (n + 1) = byteAt r n := rfl

theorem named_eq_some {n v : Nat} {k : Fin n} (h : v = k.val) : named n v = some k := by
  subst h
  exact dif_pos k.isLt

theorem named_eq_none {n v : Nat} (h : n ≤ v) : named n v = none := dif_neg (Nat.not_lt.mpr h)

theorem toNat_ofNat_fin {n : Nat} (h : n ≤ 256) (k : Fin n) : (BitVec.ofNat 8 k.val).toNat = k.val :=
  Nat.mod_eq_of_lt (Nat.lt_of_lt_of_le k.isLt h)

/-! ### The four configuration bytes (R177) -/

theorem laneStateOf_code (x : LaneState) : laneStateOf x.code.toNat = some x := by cases x <;> rfl

theorem ownerOf_code (x : Owner) : ownerOf x.code.toNat = some x := by cases x <;> rfl

theorem edgeOf_code (x : Edge) : edgeOf x.code.toNat = some x := by cases x <;> rfl

theorem laneStateOf_eq_none {v : Nat} (h : 1 < v) : laneStateOf v = none := by
  rw [laneStateOf, if_neg (by omega), if_neg (by omega)]

theorem ownerOf_eq_none {v : Nat} (h : 3 < v) : ownerOf v = none := by
  rw [ownerOf, if_neg (by omega), if_neg (by omega), if_neg (by omega), if_neg (by omega)]

theorem edgeOf_eq_none {v : Nat} (h : 1 < v) : edgeOf v = none := by
  rw [edgeOf, if_neg (by omega), if_neg (by omega)]

/-- A configuration is read back from its four bytes. -/
theorem laneConfigOf_codes (new : LaneConfig) :
    laneConfigOf [new.state.code, new.owner.code, new.edge.code, BitVec.ofNat 8 new.filter.val] 0 = some new := by
  simp only [laneConfigOf, Nat.zero_add, byteAt_cons_succ, byteAt_cons_zero, laneStateOf_code, ownerOf_code, edgeOf_code,
    toNat_ofNat_fin (show 16 ≤ 256 by decide), named_eq_some rfl]

/-- Bytes of which one is out of its range are no configuration. -/
theorem laneConfigOf_eq_none {b c d e : Byte} (h : 1 < b.toNat ∨ 3 < c.toNat ∨ 1 < d.toNat ∨ 15 < e.toNat) :
    laneConfigOf [b, c, d, e] 0 = none := by
  simp only [laneConfigOf, Nat.zero_add, byteAt_cons_succ, byteAt_cons_zero]
  rcases h with h | h | h | h
  · rw [laneStateOf_eq_none h]
  · rw [ownerOf_eq_none h]
    split <;> simp_all
  · rw [edgeOf_eq_none h]
    split <;> simp_all
  · rw [named_eq_none h]
    split <;> simp_all

theorem laneConfigOf_cons (b : Byte) (r : List Byte) (n : Nat) : laneConfigOf (b :: r) (n + 1) = laneConfigOf r n := rfl

/-! ### READ LANE and READ CHANNEL -/

theorem laneBytes_eq (l : Lane) : laneBytes l =
    [match l.config.state with | .offline => 0 | .online => 1,
      match l.config.owner with | .any => 0 | .p1 => 1 | .p2 => 2 | .p3 => 3,
      match l.config.edge with | .rise => 0 | .fall => 1,
      BitVec.ofNat 8 l.config.filter.val,
      match l.connected with | none => 0xFF | some c => BitVec.ofNat 8 c.val] := by
  unfold laneBytes
  cases l.config.state <;> cases l.config.owner <;> cases l.config.edge <;> cases l.connected <;> rfl

theorem channelResponse_eq (s : State) (c : ChannelNo) : channelResponse s c =
    [match s.service[c] with | .inService => 0 | .outOfService => 1 | .suspect => 2,
      match s.chans[c].activity with | .idle => 0 | .acquiring => 1 | .checking => 2,
      match s.xpoint[c] with | .none => 0xFF | .lane k => BitVec.ofNat 8 k.val | .cal => 0x20,
      BitVec.ofNat 8 s.verif.errors[c], BitVec.ofNat 8 (s.verif.errors[c] / 256)] := by
  unfold channelResponse
  cases s.service[c] <;> cases s.chans[c].activity <;> cases s.xpoint[c] <;> rfl

theorem readLane_bad {s : State} {b : Byte} (h : 31 < b.toNat) : readLane s [b] = refuse .badLane s := by
  rw [readLane, byteAt_cons_zero, named_eq_none h]

theorem readLane_good {s : State} {b : Byte} {k : LaneNo} (h : b.toNat = k.val) :
    readLane s [b] = .answer .success (laneBytes s.lanes[k]) s := by
  rw [readLane, byteAt_cons_zero, named_eq_some h]

theorem readChannel_bad {s : State} {b : Byte} (h : 3 < b.toNat) : readChannel s [b] = refuse .badValue s := by
  rw [readChannel, byteAt_cons_zero, named_eq_none h]

theorem readChannel_good {s : State} {b : Byte} {c : ChannelNo} (h : b.toNat = c.val) :
    readChannel s [b] = .answer .success (channelResponse s c) s := by
  rw [readChannel, byteAt_cons_zero, named_eq_some h]

/-- Settles O19, by the two rules and the layouts of their answers. -/
theorem readLaneAndChannel : Obligations.ReadLaneAndChannel := by
  intro s p b
  refine ⟨fun h => ?_, fun k h => ?_, fun h => ?_, fun c h => ?_⟩
  · exact takes_of_run rfl (by simp) rfl (readLane_bad h)
  · exact takes_of_run rfl (by simp) rfl ((readLane_good h).trans (congrArg (Reply.answer .success · s) (laneBytes_eq s.lanes[k])))
  · exact takes_of_run rfl (by simp) rfl (readChannel_bad h)
  · exact takes_of_run rfl (by simp) rfl ((readChannel_good h).trans (congrArg (Reply.answer .success · s) (channelResponse_eq s c)))

/-! ### The rewrite of a lane (R27) -/

section

variable {s : State} {k : LaneNo} {new : LaneConfig}

theorem rewriteLane_of_kept (hs : s.lanes[k].config.state = new.state) (ho : s.lanes[k].config.owner = new.owner) :
    s.rewriteLane k new = s.setLane k { s.lanes[k] with config := new } := by
  unfold State.rewriteLane
  dsimp only
  rw [if_neg (by tauto), if_neg]
  rintro ⟨online, offline⟩
  rw [online, offline] at hs
  cases hs

theorem rewriteLane_of_changed (change : s.lanes[k].config.state ≠ new.state ∨ s.lanes[k].config.owner ≠ new.owner)
    (stays : s.lanes[k].config.state = .offline ∨ new.state = .online) :
    s.rewriteLane k new = (s.setLane k { s.lanes[k] with config := new }).arbitrate := by
  unfold State.rewriteLane
  dsimp only
  rw [if_pos change, if_neg]
  rintro ⟨online, offline⟩
  rw [online, offline] at stays
  rcases stays with h | h <;> cases h

theorem rewriteLane_of_offline (online : s.lanes[k].config.state = .online) (offline : new.state = .offline) :
    s.rewriteLane k new = ((s.setLane k { s.lanes[k] with config := new }).endQueuedOn k).arbitrate := by
  unfold State.rewriteLane
  dsimp only
  rw [if_pos (.inl (by rw [online, offline]; decide)), if_pos ⟨online, offline⟩]

end

/-! ### WRITE LANE (R27) -/

theorem writeLane_bad {s : State} {a b c d e : Byte}
    (h : 31 < a.toNat ∨ 1 < b.toNat ∨ 3 < c.toNat ∨ 1 < d.toNat ∨ 15 < e.toNat) : writeLane s [a, b, c, d, e] = refuse .badLane s := by
  rw [writeLane, byteAt_cons_zero, laneConfigOf_cons]
  rcases h with h | h
  · rw [named_eq_none h]
  · rw [laneConfigOf_eq_none h]
    split <;> simp_all

/-- WRITE LANE with a payload that names a lane and a configuration. -/
theorem writeLane_good (s : State) (k : LaneNo) (new : LaneConfig) :
    writeLane s [BitVec.ofNat 8 k.val, new.state.code, new.owner.code, new.edge.code, BitVec.ofNat 8 new.filter.val] =
      if s.fill.running then refuse .fillRunning s
      else if s.lanes[k].connected.isSome then refuse .laneBusy s
      else succeed (s.rewriteLane k new) := by
  rw [writeLane, byteAt_cons_zero, toNat_ofNat_fin (by decide), named_eq_some rfl, laneConfigOf_cons, laneConfigOf_codes]

theorem writeLane_free {s : State} {k : LaneNo} (new : LaneConfig) (idle : s.fill.running = false) (free : s.lanes[k].connected = none) :
    writeLane s [BitVec.ofNat 8 k.val, new.state.code, new.owner.code, new.edge.code, BitVec.ofNat 8 new.filter.val] =
      succeed (s.rewriteLane k new) := by
  rw [writeLane_good, idle, free]
  rfl

/-- Settles O29, by the refusals in their order and the cases of the rewrite. -/
theorem writeLane : Obligations.WriteLane := by
  intro s k new a b c d e
  dsimp only
  refine ⟨fun h => ?_, fun running => ?_, fun idle busy => ?_, fun idle free => ⟨fun hs ho => ?_, fun change stays => ?_⟩⟩
  · exact takes_of_run rfl (by simp) rfl (writeLane_bad h)
  · refine takes_of_run rfl (by simp) rfl ((writeLane_good s k new).trans ?_)
    rw [if_pos running]
    rfl
  · refine takes_of_run rfl (by simp) rfl ((writeLane_good s k new).trans ?_)
    rw [if_neg (by simp [idle]), if_pos (Option.isSome_iff_ne_none.mpr busy)]
    rfl
  · refine takes_of_run rfl (by simp) rfl ((writeLane_free new idle free).trans ?_)
    rw [rewriteLane_of_kept hs ho]
    rfl
  · refine takes_of_run rfl (by simp) rfl ((writeLane_free new idle free).trans ?_)
    rw [rewriteLane_of_changed change stays]
    rfl

/-! ### The visit of a fill (R31) -/

theorem execFillVisit_of_idle {s : State} (idle : s.fill.running = false) : execFillVisit s = .next s := by
  unfold execFillVisit
  split
  · rw [if_neg (by simp [idle])]
  · rfl

section

variable {s : State} {k : LaneNo} (running : s.fill.running = true) (next : s.fill.next = k.val)

include running next

theorem execFillVisit_of_lt (more : s.fill.next < s.fill.last) : execFillVisit s = .next (s.visitLane k) := by
  rw [execFillVisit, named_eq_some next]
  dsimp only
  rw [if_pos running, if_neg (Nat.not_le.mpr more)]

theorem execFillVisit_of_last (last : s.fill.last ≤ s.fill.next) : execFillVisit s = .next ((s.visitLane k).endFill .done) := by
  rw [execFillVisit, named_eq_some next]
  dsimp only
  rw [if_pos running, if_pos last]

end

theorem visitLane_of_connected {s : State} {k : LaneNo} (h : s.lanes[k].connected ≠ none) :
    s.visitLane k = { s with fill := { s.fill with next := s.fill.next + 1, skipped := s.fill.skipped + 1 } } := by
  rw [State.visitLane, if_neg (by rwa [Option.isNone_iff_eq_none])]

theorem visitLane_of_free {s : State} {k : LaneNo} (h : s.lanes[k].connected = none) :
    s.visitLane k = ({ s with fill := { s.fill with next := s.fill.next + 1, written := s.fill.written + 1 } } : State).rewriteLane k
      s.fill.template := by
  rw [State.visitLane, if_pos (by rwa [Option.isNone_iff_eq_none])]

/-- Settles O32, by the cases of the visit and of the rewrite. -/
theorem fillVisit : Obligations.FillVisit := by
  intro s k
  dsimp only
  refine ⟨execFillVisit_of_idle, fun running next more => ?_⟩
  have visit : exec .fillVisit s = .next (s.visitLane k) := execFillVisit_of_lt running next more
  refine ⟨fun connected => ?_, fun free hs ho => ?_, fun free change stays => ?_⟩
  · rw [visit, visitLane_of_connected connected]
  · exact visit.trans (congrArg _ ((visitLane_of_free free).trans (rewriteLane_of_kept hs ho)))
  · exact visit.trans (congrArg _ ((visitLane_of_free free).trans (rewriteLane_of_changed change stays)))

end Sys2Proof.LaneProofs
end

section
namespace Sys2Proof.LaneProofs

open Sys2Proof Sys2Proof.Machine

/-! ### Service records (R150, R152) -/

theorem dropOldestService_eq_eraseP (w : List Waiting) : dropOldestService w = w.eraseP Waiting.isService := by
  induction w with
  | nil => rfl
  | cons x r ih =>
    rw [dropOldestService, List.eraseP_cons, ih]
    cases x.isService <;> rfl

theorem admits_iff {q : PortQueue} : q.admits = true ↔ q.queue.length < 8 ∧ q.waiting = [] := by
  simp [PortQueue.admits]

/-- The offer of a service record, as R150 and R152 have it. -/
theorem offerService_eq_reported (s : State) (r : ServiceReport) : s.offerService r = s.reported r := by
  unfold State.offerService State.reported
  dsimp only
  by_cases room : s.queues[(0 : PortNo)].queue.length < 8 ∧ s.queues[(0 : PortNo)].waiting = []
  · rw [if_pos (admits_iff.mpr room), if_pos room]
    unfold State.enterService State.enterRecord
    dsimp only
    rw [room.2]
    rfl
  · rw [if_neg (mt admits_iff.mp room), if_neg room, joinService, dropOldestService_eq_eraseP]
    by_cases few : s.queues[(0 : PortNo)].waiting.countP Waiting.isService < 4
    · rw [if_neg (Nat.not_le.mpr few), if_pos few]
      rfl
    · rw [if_pos (Nat.not_lt.mp few), if_neg few]
      rfl

theorem endFill_eq_reported (s : State) (o : EndOutcome) :
    s.endFill o = ({ s with fill := { s.fill with running := false } } : State).reported
      (.fill o s.fill.first s.fill.last s.fill.written s.fill.skipped) := offerService_eq_reported _ _

/-! ### The end of a job (R49, R50, R150, R151) -/

/-- The job `j` as it stands at its entry into COMPLETE (R49). -/
def endedAs (j : Job) (o : EndOutcome) (v : Verdict) : Job :=
  { j with state := .complete, channel := none, outcome := some o, verdict := some v }

section

variable {s : State} {i : SlotNo}

theorem completeJob_of_none (h : s.jobAt i = none) (o : EndOutcome) (v : Verdict) : s.completeJob i o v = s := by
  rw [State.completeJob, h]

theorem completeJob_of_some {j : Job} (h : s.jobAt i = some j) (o : EndOutcome) (v : Verdict) :
    s.completeJob i o v = ((s.setJob i (endedAs j o v)).releasePages (s.handleAt i)).offerJob i (endedAs j o v) := by
  rw [State.completeJob, h]
  rfl

theorem offerJob_of_admits {j : Job} (h : s.queues[j.port].admits = true) : s.offerJob i j = s.enterJob j.port i j := if_pos h

theorem offerJob_of_not_admits {j : Job} (h : ¬ s.queues[j.port].admits = true) :
    s.offerJob i j = s.setWaiting j.port (s.queues[j.port].waiting ++ [.job (s.handleAt i)]) := if_neg h

end

/-! ### The rewrite of a lane neither reads nor writes the fill -/

/-- The part with another fill. -/
def withFill (s : State) (f : Fill) : State := { s with fill := f }

section

variable (s : State) (f : Fill)

theorem offerJob_withFill (i : SlotNo) (j : Job) : (withFill s f).offerJob i j = withFill (s.offerJob i j) f := by
  by_cases admits : s.queues[j.port].admits = true
  · rw [offerJob_of_admits admits, offerJob_of_admits (s := withFill s f) admits]
    unfold State.enterJob State.retire
    cases j.limitSet <;> rfl
  · rw [offerJob_of_not_admits admits, offerJob_of_not_admits (s := withFill s f) admits]
    rfl

theorem completeJob_withFill (i : SlotNo) (o : EndOutcome) (v : Verdict) :
    (withFill s f).completeJob i o v = withFill (s.completeJob i o v) f := by
  cases hj : s.jobAt i with
  | none => rw [completeJob_of_none hj, completeJob_of_none (s := withFill s f) hj]
  | some j =>
    rw [completeJob_of_some hj, completeJob_of_some (s := withFill s f) hj, ← offerJob_withFill]
    rfl

theorem completeAll_withFill (o : EndOutcome) (l : List SlotNo) :
    (withFill s f).completeAll o l = withFill (s.completeAll o l) f := by
  induction l generalizing s with
  | nil => rfl
  | cons i l ih => exact (congrArg (State.completeAll · o l) (completeJob_withFill s f i o .aborted)).trans (ih _)

theorem placeByAge_withFill (x : SlotNo × Job) (l : List (SlotNo × Job)) : (withFill s f).placeByAge x l = s.placeByAge x l := by
  induction l with
  | nil => rfl
  | cons y l ih =>
    rw [State.placeByAge, State.placeByAge, ih]
    rfl

theorem oldestFirst_withFill (sel : SlotNo → Job → Bool) : (withFill s f).oldestFirst sel = s.oldestFirst sel := by
  have place : (fun l x => (withFill s f).placeByAge x l) = fun l x => s.placeByAge x l := by
    funext l x
    exact placeByAge_withFill s f x l
  rw [State.oldestFirst, place]
  rfl

theorem endQueuedOn_withFill (k : LaneNo) : (withFill s f).endQueuedOn k = withFill (s.endQueuedOn k) f := by
  rw [State.endQueuedOn, oldestFirst_withFill, completeAll_withFill]
  rfl

theorem firstRanked_withFill (l : List (SlotNo × Job)) : (withFill s f).firstRanked l = s.firstRanked l := by
  induction l with
  | nil => rfl
  | cons x l ih =>
    rw [State.firstRanked, State.firstRanked, ih]
    rfl

theorem nextJob_withFill : (withFill s f).nextJob = s.nextJob := firstRanked_withFill s f _

theorem arbitrateUpTo_withFill (n : Nat) : State.arbitrateUpTo n (withFill s f) = withFill (State.arbitrateUpTo n s) f := by
  induction n generalizing s with
  | zero => rfl
  | succ n ih =>
    have free : (withFill s f).freeChannel = s.freeChannel := rfl
    rw [State.arbitrateUpTo, State.arbitrateUpTo, free, nextJob_withFill]
    split
    · rename_i c i j _ _
      exact ih (s.grant c i j)
    · rfl

theorem arbitrate_withFill : (withFill s f).arbitrate = withFill s.arbitrate f := arbitrateUpTo_withFill s f 4

theorem rewriteLane_withFill (k : LaneNo) (new : LaneConfig) : (withFill s f).rewriteLane k new = withFill (s.rewriteLane k new) f := by
  have written : (withFill s f).setLane k { (withFill s f).lanes[k] with config := new } =
    withFill (s.setLane k { s.lanes[k] with config := new }) f := rfl
  by_cases kept : s.lanes[k].config.state = new.state ∧ s.lanes[k].config.owner = new.owner
  · rw [rewriteLane_of_kept kept.1 kept.2, rewriteLane_of_kept (s := withFill s f) kept.1 kept.2, written]
  · by_cases offline : s.lanes[k].config.state = .online ∧ new.state = .offline
    · rw [rewriteLane_of_offline offline.1 offline.2, rewriteLane_of_offline (s := withFill s f) offline.1 offline.2, written,
        endQueuedOn_withFill, arbitrate_withFill]
    · have change : s.lanes[k].config.state ≠ new.state ∨ s.lanes[k].config.owner ≠ new.owner := by tauto
      have stays : s.lanes[k].config.state = .offline ∨ new.state = .online := by
        cases hs : s.lanes[k].config.state <;> cases hn : new.state <;> simp_all
      rw [rewriteLane_of_changed change stays, rewriteLane_of_changed (s := withFill s f) change stays, written, arbitrate_withFill]

/-- The visit of a lane is the same whichever lane is the last. -/
theorem visitLane_withLast (k : LaneNo) (last : Nat) :
    (withFill s { s.fill with last := last }).visitLane k = withFill (s.visitLane k) { (s.visitLane k).fill with last := last } := by
  by_cases free : s.lanes[k].connected = none
  · rw [visitLane_of_free free, visitLane_of_free (s := withFill s { s.fill with last := last }) free]
    refine (rewriteLane_withFill s _ k s.fill.template).trans ?_
    have visited := rewriteLane_withFill s { s.fill with next := s.fill.next + 1, written := s.fill.written + 1 } k s.fill.template
    unfold withFill at visited
    rw [visited]
    rfl
  · rw [visitLane_of_connected free, visitLane_of_connected (s := withFill s { s.fill with last := last }) free]
    rfl

theorem visitLane_last (k : LaneNo) : (s.visitLane k).fill.last = s.fill.last := by
  unfold State.visitLane
  split
  · rw [State.rewriteLane_fill]
  · rfl

/-- With the fill's last lane put back, a visit leaves what it would have left with that lane all along. -/
theorem visitLane_putBack (k : LaneNo) (last : Nat) :
    withFill ((withFill s { s.fill with last := last }).visitLane k)
      { ((withFill s { s.fill with last := last }).visitLane k).fill with last := s.fill.last } = s.visitLane k := by
  rw [visitLane_withLast, ← visitLane_last s k]
  rfl

end

/-! ### FILL LANES and the end of a fill -/

theorem fillLanes_bad {s : State} {first last b c d e : Byte} (h : 31 < last.toNat ∨ last.toNat < first.toNat ∨
    1 < b.toNat ∨ 3 < c.toNat ∨ 1 < d.toNat ∨ 15 < e.toNat) : fillLanes s [first, last, b, c, d, e] = refuse .badLane s := by
  rw [fillLanes, byteAt_cons_zero, byteAt_cons_succ, byteAt_cons_zero, laneConfigOf_cons, laneConfigOf_cons]
  by_cases range : 31 < last.toNat ∨ last.toNat < first.toNat
  · split
    · rw [if_pos range]
    · rfl
  · rw [laneConfigOf_eq_none (by tauto)]

/-- FILL LANES with a payload that names a range of lanes and a configuration. -/
theorem fillLanes_good {s : State} {first last : Byte} (new : LaneConfig) (hl : last.toNat ≤ 31) (hf : first.toNat ≤ last.toNat) :
    fillLanes s [first, last, new.state.code, new.owner.code, new.edge.code, BitVec.ofNat 8 new.filter.val] =
      if s.fill.running then refuse .fillRunning s else succeed { s with fill := .started new first.toNat last.toNat } := by
  rw [fillLanes, byteAt_cons_zero, byteAt_cons_succ, byteAt_cons_zero, laneConfigOf_cons, laneConfigOf_cons, laneConfigOf_codes]
  dsimp only
  rw [if_neg (by omega)]

/-- Settles O31: the start of a fill by its rule, both ends by the offer of the FILL record, and the last visit as an earlier one with an end. -/
theorem fillLanesAndEnds : Obligations.FillLanesAndEnds := by
  refine ⟨fun s first last new => ⟨fun b c d e h => ?_, fun hl hf => ⟨fun running => ?_, fun idle => ?_⟩⟩, fun s => ?_⟩
  · exact takes_of_run rfl (by simp) rfl (fillLanes_bad h)
  · refine takes_of_run rfl (by simp) rfl ((fillLanes_good new hl hf).trans ?_)
    rw [if_pos running]
    rfl
  · refine takes_of_run rfl (by simp) rfl ((fillLanes_good new hl hf).trans ?_)
    rw [if_neg (by simp [idle])]
    rfl
  · refine ⟨fun idle => ?_, fun running => ?_, fun k running next last => ?_⟩
    · refine takes_of_run (run := fun _ => stopFill s) rfl (by simp) rfl ?_
      rw [stopFill, if_neg (by simp [idle])]
      rfl
    · refine takes_of_run (run := fun _ => stopFill s) rfl (by simp) rfl ?_
      rw [stopFill, if_pos running, endFill_eq_reported]
      rfl
    · let s' := withFill s { s.fill with last := s.fill.last + 1 }
      have earlier : execFillVisit s' = .next (s'.visitLane k) :=
        execFillVisit_of_lt (s := s') running next (Nat.lt_succ_of_le (Nat.le_of_eq last))
      have final : execFillVisit s = .next ((s.visitLane k).endFill .done) :=
        execFillVisit_of_last running next (Nat.le_of_eq last.symm)
      rw [endFill_eq_reported, ← visitLane_putBack s k (s.fill.last + 1)] at final
      exact ⟨s'.visitLane k, earlier, final⟩

end Sys2Proof.LaneProofs
end

section
namespace Sys2Proof.LaneProofs

open Sys2Proof Sys2Proof.Machine

/-! ### What a decision has granted, read from its two ends -/

/-- From `s` to `t` the eligible job `j` of slot `i` has been granted the free channel `c` (R66, R82). -/
def Granted (s t : State) (i : SlotNo) (j : Job) (c : ChannelNo) : Prop :=
  s.jobAt i = some j ∧ s.eligible j = true ∧ s.service[c] = .inService ∧ s.chans[c].activity = .idle ∧
    t.table[i] = ⟨s.table[i].gen, some { j with state := .acquiring, channel := some c }⟩ ∧ t.xpoint[c] = .lane j.lane ∧
    t.lanes[j.lane] = { s.lanes[j.lane] with connected := some c, qualifier := some s.lanes[j.lane].startQualifier } ∧
    t.chans[c] = s.chans[c].granted (s.handleAt i) j s.ref.fine

/-- The job of slot `i` in `t` is not the one that `s` has there. -/
def NewJob (s t : State) (i : SlotNo) (j : Job) : Prop := t.jobAt i = some j ∧ s.jobAt i ≠ some j

/-- From `s` to `t` nothing but grants has happened to jobs, channels, entries and lanes. -/
def OnlyGrants (s t : State) : Prop :=
  (∀ i : SlotNo, t.table[i] = s.table[i] ∨ ∃ (j : Job) (c : ChannelNo), Granted s t i j c) ∧
    (∀ c : ChannelNo, (t.chans[c] = s.chans[c] ∧ t.xpoint[c] = s.xpoint[c]) ∨ ∃ (i : SlotNo) (j : Job), NewJob s t i j ∧ j.channel = some c) ∧
    ∀ k : LaneNo, t.lanes[k] = s.lanes[k] ∨ ∃ (i : SlotNo) (j : Job), NewJob s t i j ∧ j.lane = k

theorem OnlyGrants.refl (s : State) : OnlyGrants s s := ⟨fun _ => .inl rfl, fun _ => .inl ⟨rfl, rfl⟩, fun _ => .inl rfl⟩

theorem jobAt_eq {s : State} {i : SlotNo} {x : Slot} (h : s.table[i] = x) : s.jobAt i = x.job := by rw [State.jobAt, h]

section

variable {s t : State} (h : OnlyGrants s t)

include h

/-- A new job is the job granted in its slot. -/
theorem OnlyGrants.of_newJob {i : SlotNo} {j' : Job} (new : NewJob s t i j') :
    ∃ (j : Job) (c : ChannelNo), Granted s t i j c ∧ j' = { j with state := .acquiring, channel := some c } := by
  obtain ⟨now, before⟩ := new
  rcases h.1 i with same | ⟨j, c, granted⟩
  · exact absurd ((jobAt_eq same).symm.trans now) before
  · have ⟨_, _, _, _, slot, _⟩ := granted
    exact ⟨j, c, granted, Option.some.inj (now.symm.trans (jobAt_eq slot))⟩

/-- A job that is not QUEUED is granted nothing. -/
theorem OnlyGrants.table_of_not_queued {i : SlotNo} {j : Job} (hj : s.jobAt i = some j) (hs : j.state ≠ .queued) :
    t.table[i] = s.table[i] := by
  rcases h.1 i with same | ⟨j', c, here, eligible, -⟩
  · exact same
  · cases hj.symm.trans here
    exact absurd (eligible_iff.mp eligible).1 hs

/-- A channel that is not IDLE is granted to nobody. -/
theorem OnlyGrants.chan_of_busy {c : ChannelNo} (hc : s.chans[c].activity ≠ .idle) : t.chans[c] = s.chans[c] ∧ t.xpoint[c] = s.xpoint[c] := by
  rcases h.2.1 c with same | ⟨i, j', new, channel⟩
  · exact same
  · obtain ⟨j, d, ⟨-, -, -, free, -⟩, rfl⟩ := h.of_newJob new
    cases channel
    exact absurd free hc

/-- A connected lane stays connected as it is. -/
theorem OnlyGrants.lane_of_connected {k : LaneNo} (hk : s.lanes[k].connected ≠ none) : t.lanes[k] = s.lanes[k] := by
  rcases h.2.2 k with same | ⟨i, j', new, lane⟩
  · exact same
  · obtain ⟨j, d, ⟨-, eligible, -⟩, rfl⟩ := h.of_newJob new
    obtain ⟨-, -, -, -, -, -, unconnected⟩ := eligible_iff.mp eligible
    exact absurd (lane ▸ unconnected) hk

end

section

variable {s t : State} {c : ChannelNo} {i : SlotNo} {j : Job} (h : OnlyGrants (s.grant c i j) t)

include h

/-- What a grant has done, the grants after it leave: its job is no more QUEUED, its channel IDLE or its lane free. -/
theorem OnlyGrants.keeps_grant : t.table[i] = ⟨s.table[i].gen, some { j with state := .acquiring, channel := some c }⟩ ∧
    t.xpoint[c] = .lane j.lane ∧
    t.lanes[j.lane] = { s.lanes[j.lane] with connected := some c, qualifier := some s.lanes[j.lane].startQualifier } ∧
    t.chans[c] = s.chans[c].granted (s.handleAt i) j s.ref.fine := by
  have slot := grant_table s c i j i
  have lane := grant_lanes s c i j j.lane
  have chan := grant_chans s c i j c
  have entry := grant_xpoint s c i j c
  rw [if_pos rfl] at slot lane chan entry
  obtain ⟨sameChan, sameEntry⟩ := h.chan_of_busy (c := c) (by rw [chan]; exact nofun)
  refine ⟨?_, sameEntry.trans entry, (h.lane_of_connected ?_).trans lane, sameChan.trans chan⟩
  · exact (h.table_of_not_queued (jobAt_eq slot) nofun).trans slot
  · rw [lane]
    exact nofun

/-- A job new after the grant is new from the start. -/
theorem OnlyGrants.newJob_of_later {m : SlotNo} {j' : Job} (new : NewJob (s.grant c i j) t m j') : NewJob s t m j' := by
  obtain ⟨now, before⟩ := new
  refine ⟨now, fun same => before ?_⟩
  have granted := grant_table s c i j m
  split at granted
  · subst m
    exact (jobAt_eq (granted.trans h.keeps_grant.1.symm)).trans now
  · exact (jobAt_eq granted).trans same

end

/-- A grant to another job after a grant is a grant from the start: it meets another channel and another lane. -/
theorem Granted.of_later {s t : State} {c d : ChannelNo} {i m : SlotNo} {j j' : Job} (h : Granted (s.grant c i j) t m j' d)
    (hm : i ≠ m) : Granted s t m j' d := by
  obtain ⟨here, eligible, service, free, slot, entry, lane, chan⟩ := h
  have slotBefore := grant_table s c i j m
  have chanBefore := grant_chans s c i j d
  have laneBefore := grant_lanes s c i j j'.lane
  have otherChan : c ≠ d := fun hd => by
    rw [if_pos hd] at chanBefore
    rw [chanBefore] at free
    cases free
  obtain ⟨queued, lockedRef, reflost, running, floor, online, unconnected⟩ := eligible_iff.mp eligible
  have otherLane : j.lane ≠ j'.lane := fun hl => by
    rw [if_pos hl] at laneBefore
    rw [laneBefore] at unconnected
    cases unconnected
  rw [if_neg hm] at slotBefore
  rw [if_neg otherChan] at chanBefore
  rw [if_neg otherLane] at laneBefore
  have handle : (s.grant c i j).handleAt m = s.handleAt m := by rw [State.handleAt, slotBefore, State.handleAt]
  rw [jobAt_eq slotBefore] at here
  rw [laneBefore] at online unconnected lane
  rw [chanBefore] at free chan
  rw [slotBefore] at slot
  rw [handle] at chan
  exact ⟨here, eligible_iff.mpr ⟨queued, lockedRef, reflost, running, floor, online, unconnected⟩, service, free, slot, entry, lane, chan⟩

/-- A grant and then grants are grants. -/
theorem OnlyGrants.of_grant {s t : State} {c : ChannelNo} {i : SlotNo} {j : Job} (hc : s.freeChannel = some c)
    (hj : s.nextJob = some (i, j)) (h : OnlyGrants (s.grant c i j) t) : OnlyGrants s t := by
  obtain ⟨service, free⟩ := mem_freeChannel hc
  obtain ⟨here, eligible⟩ := nextJob_eligible hj
  have self : Granted s t i j c := ⟨here, eligible, service, free, h.keeps_grant⟩
  have selfNew : NewJob s t i { j with state := .acquiring, channel := some c } := by
    refine ⟨jobAt_eq h.keeps_grant.1, fun same => ?_⟩
    have states := congrArg Job.state (Option.some.inj (here.symm.trans same))
    exact absurd ((eligible_iff.mp eligible).1.symm.trans states) nofun
  refine ⟨fun m => ?_, fun d => ?_, fun k => ?_⟩
  · by_cases hm : i = m
    · subst hm
      exact .inr ⟨j, c, self⟩
    · rcases h.1 m with same | ⟨j', d, granted⟩
      · rw [grant_table, if_neg hm] at same
        exact .inl same
      · exact .inr ⟨j', d, granted.of_later hm⟩
  · rcases h.2.1 d with ⟨same, entry⟩ | ⟨m, j', new, channel⟩
    · by_cases hd : c = d
      · exact .inr ⟨i, _, selfNew, congrArg some hd⟩
      · rw [grant_chans, if_neg hd] at same
        rw [grant_xpoint, if_neg hd] at entry
        exact .inl ⟨same, entry⟩
    · exact .inr ⟨m, j', h.newJob_of_later new, channel⟩
  · rcases h.2.2 k with same | ⟨m, j', new, laneOf⟩
    · by_cases hk : j.lane = k
      · exact .inr ⟨i, _, selfNew, hk⟩
      · rw [grant_lanes, if_neg hk] at same
        exact .inl same
    · exact .inr ⟨m, j', h.newJob_of_later new, laneOf⟩

theorem arbitrateUpTo_onlyGrants (n : Nat) (s : State) : OnlyGrants s (State.arbitrateUpTo n s) := by
  induction n generalizing s with
  | zero => exact .refl s
  | succ n ih =>
    unfold State.arbitrateUpTo
    split
    · rename_i hc hj
      exact .of_grant hc hj (ih _)
    · exact .refl s

/-- Settles O39, by induction on the grants of a decision. -/
theorem grantsAreSound : Obligations.GrantsAreSound := by
  intro s
  obtain ⟨jobs, chans, lanes⟩ := arbitrateUpTo_onlyGrants 4 s
  refine ⟨?_, jobs, fun c => ?_, fun k => ?_⟩
  · obtain ⟨_, _, _, _, frame⟩ := s.arbitrate_frame
    rw [frame]
  · refine (chans c).imp id fun ⟨i, j, new, channel⟩ => ⟨i, j, new.1, new.2, channel⟩
  · refine (lanes k).imp id fun ⟨i, j, new, lane⟩ => ⟨i, j, new.1, new.2, lane⟩

end Sys2Proof.LaneProofs
end

section
namespace Sys2Proof.LaneProofs

open Sys2Proof Sys2Proof.Machine

/-! ### The end of an acquisition, written out -/

theorem modifyJob_of_some {s : State} {i : SlotNo} {j : Job} (h : s.jobAt i = some j) (f : Job → Job) :
    s.modifyJob i f = s.setJob i (f j) := by
  rw [State.modifyJob, h]

theorem setJob_jobAt (s : State) (i : SlotNo) (j : Job) : (s.setJob i j).jobAt i = some j := by
  rw [State.jobAt, State.setJob, State.setSlot_table_get, if_pos rfl]

/-- A job written twice in its slot stands there as it was written last. -/
theorem setJob_setJob (s : State) (i : SlotNo) (j j' : Job) : (s.setJob i j).setJob i j' = s.setJob i j' := by
  have gen : (s.setJob i j).table[i].gen = s.table[i].gen := by rw [State.setJob, State.setSlot_table_get, if_pos rfl]
  rw [State.setJob, gen, State.setJob, State.setJob, State.setSlot, State.setSlot, State.setSlot, Vector.set_set]

theorem stopChannel_of_lane {s : State} {c : ChannelNo} {k : LaneNo} (h : s.xpoint[c] = .lane k) :
    s.stopChannel c = s.freed c k s.chans[c].stopped := by
  rw [State.stopChannel, State.disconnect, h]
  rfl

theorem takeHead_of_busy {s : State} {g : Handle} (h : s.current = some g) : s.takeHead = s := by
  rw [State.takeHead, h]

theorem takeHead_of_idle {s : State} {g : Handle} {r : List Handle} (hc : s.current = none) (hf : s.fifo = g :: r) :
    s.takeHead = ({ s with fifo := r, current := some g } : State).modifyJob g.slot fun j => { j with state := .reducing } := by
  rw [State.takeHead, hc, hf]

/-- The job `j` named `g` waits for reduction at the FIFO's tail (R87, R111). -/
def waits (s : State) (g : Handle) (j : Job) : State :=
  { s.setJob g.slot { j with state := .waitReduce, channel := none } with fifo := s.fifo ++ [g] }

/-- The job `j` named `g` waits for reduction, or is being reduced where the unit was IDLE (R111, R112). -/
def handedOver (s : State) (g : Handle) (j : Job) : State :=
  { s.setJob g.slot { j with state := if s.current = none then .reducing else .waitReduce, channel := none } with
    fifo := if s.current = none then [] else s.fifo ++ [g]
    current := if s.current = none then some g else s.current }

/-- A job that joins the FIFO waits, or is taken at once by a unit that was IDLE (R111, R112). -/
theorem takeHead_waits (s : State) (g : Handle) (j : Job) (idle : s.current = none → s.fifo = []) :
    (waits s g j).takeHead = handedOver s g j := by
  cases hc : s.current with
  | none =>
    have alone : (waits s g j).fifo = [g] := by
      change s.fifo ++ [g] = [g]
      rw [idle hc]
      rfl
    have written : (waits s g j).jobAt g.slot = some { j with state := .waitReduce, channel := none } := setJob_jobAt s g.slot _
    have free : (waits s g j).current = none := hc
    rw [takeHead_of_idle free alone, modifyJob_of_some (s := { waits s g j with fifo := [], current := some g }) written]
    unfold handedOver
    rw [if_pos hc, if_pos hc, if_pos hc]
    exact congrArg (fun t : State => ({ t with fifo := [], current := some g } : State)) (setJob_setJob s g.slot _ _)
  | some g' =>
    have busy : ¬ s.current = none := by rw [hc]; exact nofun
    have reducing : (waits s g j).current = some g' := hc
    rw [takeHead_of_busy reducing, handedOver, if_neg busy, if_neg busy, if_neg busy]
    rfl

theorem afterAcquisition_eq_decided (s : State) : s.afterAcquisition = s.decided := by
  unfold State.afterAcquisition State.decided State.testHold
  congr 1
  by_cases hp : s.hold = .pending ∧ ∀ c : ChannelNo, s.chans[c].activity ≠ .acquiring
  · rw [if_pos hp, if_pos ⟨hp.1, anyAcquiring_eq_false_iff.mpr hp.2⟩]
  · rw [if_neg hp, if_neg fun h => hp ⟨h.1, anyAcquiring_eq_false_iff.mp h.2⟩]

/-- The end of an acquisition: the channel is freed, the job handed over, and what follows (R87). -/
theorem finishAcquisition_eq {s : State} {c : ChannelNo} {g : Handle} {j : Job} {k : LaneNo} (hj : s.jobAt g.slot = some j)
    (hx : s.xpoint[c] = .lane k) (idle : s.current = none → s.fifo = []) :
    s.finishAcquisition c g = (handedOver (s.freed c k s.chans[c].stopped) g j).decided := by
  unfold State.finishAcquisition
  rw [stopChannel_of_lane hx, modifyJob_of_some (s := s.freed c k s.chans[c].stopped) hj, ← afterAcquisition_eq_decided]
  exact congrArg State.afterAcquisition (takeHead_waits (s.freed c k s.chans[c].stopped) g j idle)

/-- The state that a timestamp leaves before the test for the N-th (R86). -/
theorem writeTimestamp_eq {s : State} {c : ChannelNo} {g : Handle} {j : Job} (hj : s.jobAt g.slot = some j) (t : Timestamp) :
    s.writeTimestamp c g t =
      ({ s with mem := s.mem.write (s.chans[c].baseWord + s.chans[c].captured) t }.setChan c (s.chans[c].stamped t)).setJob g.slot
        { j with captured := s.chans[c].captured + 1 } := by
  unfold State.writeTimestamp
  rw [modifyJob_of_some (j := j)]
  exact hj

/-! ### The edge that is taken -/

/-- An edge that the lane offers in time reaches its ACQUIRING channel. -/
theorem edgeComes_of_offered {s : State} {c : ChannelNo} {fine : Fine} {g : Handle} {k : LaneNo}
    (acquiring : s.chans[c].activity = .acquiring) (hg : s.chans[c].job = some g) (hx : s.xpoint[c] = .lane k)
    (offers : (s.lanes[k].settle s.now).offers (s.ref.counter ++ fine) = true) (inTime : s.chans[c].inTime fine = true) :
    s.edgeComes c fine = (s.setLane k (s.lanes[k].settle s.now)).takeEdge c g k (s.ref.counter ++ fine) := by
  have lane : (s.setLane k (s.lanes[k].settle s.now)).lanes[k] = s.lanes[k].settle s.now := by rw [State.setLane_lanes_get, if_pos rfl]
  rw [State.edgeComes, acquiring, hg, hx]
  dsimp only
  rw [lane, offers, inTime]
  rfl

/-- The N-th timestamp, in a word that exists, ends the acquisition. -/
theorem stamp_of_last {s : State} {c : ChannelNo} {t : Timestamp} (g : Handle)
    (inMemory : s.chans[c].baseWord + s.chans[c].captured < Config.memoryWords) (last : s.chans[c].n ≤ s.chans[c].captured + 1) :
    s.stamp c g t = .next ((s.writeTimestamp c g t).finishAcquisition c g) := by
  rw [State.stamp, if_neg (Nat.not_le.mpr inMemory), if_pos last]

theorem takeEdge_of_stamps {s : State} {c : ChannelNo} {t : Timestamp} (g : Handle) (k : LaneNo) (stamps : s.chans[c].stamps t = true) :
    s.takeEdge c g k t = (s.setLane k s.lanes[k].deliver).stamp c g t := by
  rw [State.takeEdge, if_pos stamps]

theorem stamps_of {x : Channel} {t : Timestamp} (stampable : ∀ last, x.lastTimestamp = some last → 262144 ≤ (t - last).toNat)
    (count : x.d ≤ min 65535 (x.decimation + 1)) : x.stamps t = true := by
  refine Bool.and_eq_true_iff.mpr ⟨?_, Bool.or_eq_true_iff.mpr (.inr (decide_eq_true count))⟩
  unfold Channel.stampable
  split
  · rfl
  · exact decide_eq_true (stampable _ ‹_›)

/-- With nothing due before a place, an edge there comes no later than its channel's timer ends. -/
theorem inTime_of_quietBefore {s : State} {c : ChannelNo} {fine : Fine} {r : Nat} (quiet : s.quietBefore fine.toNat)
    (timer : s.chans[c].timer = some r) : s.chans[c].inTime fine = true := by
  rw [Channel.inTime, timer]
  refine decide_eq_true ?_
  by_cases hr : r < Config.ticksPerCoarse
  · refine quiet (r, .starvation c) ?_
    have due : (r, TimedEvent.starvation c) ∈ s.dueStarvation c := by
      simp only [State.dueStarvation, timer, if_pos hr]
      exact List.mem_singleton_self _
    simp only [State.due, List.mem_append, List.mem_insertionSort, List.mem_flatMap]
    exact .inr (.inl (.inl (.inl (.inr ⟨c, List.mem_finRange c, due⟩))))
  · exact Nat.le_of_lt (Nat.lt_of_lt_of_le fine.isLt (Nat.not_lt.mp hr))

/-- The job that a channel serves has the channel's N (R37, R66). -/
theorem captureLength_of_served {s : State} (h : s.acquisitionsAgree) {c : ChannelNo} {g : Handle} {j : Job}
    (hg : s.chans[c].job = some g) (hj : s.jobAt g.slot = some j) : s.chans[c].n = j.n := by
  obtain ⟨served, keeps⟩ := h
  obtain ⟨j', found, -, channel⟩ := served c g hg
  rw [Option.mem_def, State.lookup] at found
  split at found
  · cases hj.symm.trans found
    exact ((keeps g.slot j hj).2 c channel).2.1
  · cases found

/-- The part after the N-th timestamp `t` of channel `c`, before what follows at that event (R86, R87, R111). -/
def afterLast (s : State) (c : ChannelNo) (g : Handle) (j : Job) (k : LaneNo) (t : Timestamp) : State :=
  ({ s with
    mem := s.mem.write (s.chans[c].baseWord + s.chans[c].captured) t
    table := s.table.set g.slot ⟨s.table[g.slot].gen, some { j with
      state := if s.current = none then .reducing else .waitReduce
      channel := none
      captured := s.chans[c].captured + 1 }⟩
    fifo := if s.current = none then [] else s.fifo ++ [g]
    current := if s.current = none then some g else s.current } : State).freed c k (s.chans[c].stamped t).stopped

/-- The lane's filter may be brought to the instant and its edge delivered before: the lane is disconnected with its filter. -/
theorem finishAcquisition_writeTimestamp {s : State} {c : ChannelNo} {g : Handle} {j : Job} {k : LaneNo} {u v : Timestamp}
    (hj : s.jobAt g.slot = some j) (hx : s.xpoint[c] = .lane k) (idle : s.current = none → s.fifo = []) :
    ((((s.setLane k (s.lanes[k].settle v)).setLane k (s.lanes[k].settle v).deliver).writeTimestamp c g u).finishAcquisition c g) =
      (afterLast s c g j k u).decided := by
  let delivered := (s.setLane k (s.lanes[k].settle v)).setLane k (s.lanes[k].settle v).deliver
  have written := writeTimestamp_eq (s := delivered) (c := c) hj u
  rw [finishAcquisition_eq (j := { j with captured := s.chans[c].captured + 1 }) (k := k) ?_ ?_ ?_, written]
  · congr 1
    simp only [handedOver, afterLast, delivered, State.freed, State.setJob, State.setSlot, State.setChan, State.setLane, Vector.set_set,
      getElem_set_fin, if_true]
    rfl
  · rw [written]
    exact setJob_jobAt _ _ _
  · rw [written]
    exact hx
  · rw [written]
    exact idle

/-- An edge that is offered in time, stamped and the last ends the acquisition. -/
theorem edgeComes_of_last {s : State} {c : ChannelNo} {fine : Fine} {g : Handle} {j : Job} {k : LaneNo}
    (acquiring : s.chans[c].activity = .acquiring) (hg : s.chans[c].job = some g) (hj : s.jobAt g.slot = some j)
    (hx : s.xpoint[c] = .lane k) (idle : s.current = none → s.fifo = [])
    (offers : (s.lanes[k].settle s.now).offers (s.ref.counter ++ fine) = true) (inTime : s.chans[c].inTime fine = true)
    (stamps : s.chans[c].stamps (s.ref.counter ++ fine) = true)
    (inMemory : s.chans[c].baseWord + s.chans[c].captured < Config.memoryWords) (last : s.chans[c].captured + 1 = s.chans[c].n) :
    s.edgeComes c fine = .next (afterLast s c g j k (s.ref.counter ++ fine)).decided := by
  let settled := s.setLane k (s.lanes[k].settle s.now)
  have lane : settled.lanes[k] = s.lanes[k].settle s.now := by rw [State.setLane_lanes_get, if_pos rfl]
  have taken : settled.takeEdge c g k (s.ref.counter ++ fine) =
      (settled.setLane k (s.lanes[k].settle s.now).deliver).stamp c g (s.ref.counter ++ fine) := by
    rw [takeEdge_of_stamps (s := settled) g k stamps, lane]
  rw [edgeComes_of_offered acquiring hg hx offers inTime, taken,
    stamp_of_last (s := settled.setLane k (s.lanes[k].settle s.now).deliver) g inMemory last.ge,
    finishAcquisition_writeTimestamp hj hx idle]

/-- Settles O43: the edge is offered, in time, stamped and the last, so that the acquisition finishes. -/
theorem nthTimestamp : Obligations.NthTimestamp := by
  intro s c fine g j k q r canonical links jobs bounds
  dsimp only
  intro hg hj hx timer quiet filter oldest last stampable count
  obtain ⟨acquisitions, ⟨-, -, -, -, -, idle⟩, -⟩ := jobs
  obtain ⟨⟨wired, -⟩, -⟩ := (linksAgree_iff s).mp links
  have acquiring := wired.acquiring_of_job (c := c) (by rw [hg]; exact nofun)
  have length := captureLength_of_served acquisitions hg hj
  obtain ⟨fewer, inMemory⟩ := bounds.2.2.1 c acquiring
  have offers : ((s.upTo fine).lanes[k].settle (s.upTo fine).now).offers (s.ref.counter ++ fine) = true := by
    have settled : ((s.upTo fine).lanes[k].settle (s.upTo fine).now).qualifier = some q := filter
    rw [Lane.offers, settled]
    exact decide_eq_true oldest
  have arrives : exec (.qualifiedEdge c fine) s = (s.upTo fine).edgeComes c fine := by
    change andThen (s.passTo fine) _ = _
    rw [State.passTo_quiet quiet]
    rfl
  have written : s.chans[c].baseWord + s.chans[c].captured < Config.memoryWords := Nat.lt_of_lt_of_le (by omega) inMemory
  have edge : (s.upTo fine).edgeComes c fine = .next (afterLast (s.upTo fine) c g j k (s.ref.counter ++ fine)).decided :=
    edgeComes_of_last (s := s.upTo fine) acquiring hg hj hx idle offers (inTime_of_quietBefore quiet timer) (stamps_of stampable count)
      written last
  refine ⟨_, arrives.trans edge, fun a => ?_, ?_⟩
  · exact Memory.read_write s.mem _ a _ canonical
  · have captured : (s.upTo fine).chans[c].captured + 1 = j.n := last.trans length
    have channel : ((s.upTo fine).chans[c].stamped (s.ref.counter ++ fine)).stopped = { s.chans[c] with
        activity := .idle, job := none, timer := none, captured := s.chans[c].n, decimation := 0
        lastTimestamp := some (s.ref.counter ++ fine) } := by
      rw [← last]
      rfl
    rw [afterLast, captured, channel]
    rfl

end Sys2Proof.LaneProofs
end

section
namespace Sys2Proof.LaneProofs

open Sys2Proof Sys2Proof.Machine

/-! ### One job ends (R49, R50, R150, R151) -/

theorem releasePages_pages (s : State) (g : Handle) (q : PageNo) :
    (s.releasePages g).pages[q] = if s.pages[q] = some g then none else s.pages[q] := getElem_ofFn_fin _ q

theorem setJob_table (s : State) (i m : SlotNo) (j : Job) :
    (s.setJob i j).table[m] = if i = m then ⟨s.table[i].gen, some j⟩ else s.table[m] := getElem_set_fin s.table i m _

theorem dropReference_limits (s : State) (o : Option SetNo) (x : SetNo) : (s.dropReference o).limits[x] =
    { s.limits[x] with references := if o = some x then s.limits[x].references - 1 else s.limits[x].references } := by
  cases o with
  | none => rw [if_neg nofun]; rfl
  | some y =>
    rw [State.dropReference, State.setLimit_limits_get]
    by_cases hy : y = x
    · subst hy
      rw [if_pos rfl, if_pos rfl]
    · rw [if_neg hy, if_neg fun h => hy (Option.some.inj h)]

/-- What the departure of a job from the table writes (R38, R50). -/
theorem retire_eq (s : State) (i : SlotNo) (j : Job) :
    (s.retire i j).table = s.table.set i ⟨s.table[i].gen + 1, none⟩ ∧ (s.retire i j).held = s.held.set j.port (s.held[j.port] - 1) ∧
      (s.retire i j).limits = (s.dropReference j.limitSet).limits ∧ (s.retire i j).queues = s.queues ∧ (s.retire i j).pages = s.pages := by
  unfold State.retire
  cases j.limitSet <;> exact ⟨rfl, rfl, rfl, rfl, rfl⟩

theorem enterRecord_queues (s : State) (p m : PortNo) (r : Record) : (s.enterRecord p r).queues[m] =
    if p = m then ⟨s.queues[p].queue ++ [r], s.queues[p].waiting, true⟩ else s.queues[m] := getElem_set_fin s.queues p m _

/-- The part with the job `done` standing in slot `i`, its pages released, before its record is offered (R49). -/
def completed (s : State) (i : SlotNo) (done : Job) : State := (s.setJob i done).releasePages (s.handleAt i)

theorem completed_handleAt (s : State) (i : SlotNo) (done : Job) : (completed s i done).handleAt i = s.handleAt i := by
  change (⟨i, (s.setJob i done).table[i].gen⟩ : Handle) = _
  rw [setJob_table, if_pos rfl]
  rfl

theorem completed_pages (s : State) (i : SlotNo) (done : Job) (q : PageNo) :
    (completed s i done).pages[q] = if s.pages[q] = some (s.handleAt i) then none else s.pages[q] :=
  releasePages_pages (s.setJob i done) (s.handleAt i) q

theorem completed_table (s : State) (i m : SlotNo) (done : Job) :
    (completed s i done).table[m] = if i = m then ⟨s.table[i].gen, some done⟩ else s.table[m] := setJob_table s i m done

/-- A record that enters: its job leaves the table. -/
theorem ended_of_admits {s : State} {i : SlotNo} {done : Job} (admits : s.queues[done.port].admits = true) :
    ended s ((completed s i done).offerJob i done) i done := by
  let r : Record := .job (s.handleAt i) done s.ref.lineTime (decide (s.ref.source = .rc))
  have offered : (completed s i done).offerJob i done = ((completed s i done).enterRecord done.port r).retire i done := by
    rw [offerJob_of_admits (s := completed s i done) admits, State.enterJob, completed_handleAt]
    rfl
  obtain ⟨table, held, limits, queues, pages⟩ := retire_eq ((completed s i done).enterRecord done.port r) i done
  rw [← offered] at table held limits queues pages
  refine ⟨fun q => ?_, fun m hm => ?_, fun p hp => ⟨?_, ?_⟩, fun x => ?_, fun _ => ⟨?_, ?_, ?_⟩, fun waits => absurd admits waits⟩
  · rw [pages]
    exact completed_pages s i done q
  · rw [table, getElem_set_fin, if_neg hm.symm]
    exact (completed_table s i m done).trans (if_neg hm.symm)
  · rw [queues, enterRecord_queues, if_neg hp.symm]
    rfl
  · rw [held, getElem_set_fin, if_neg hp.symm]
    rfl
  · rw [limits, dropReference_limits]
    by_cases hx : done.limitSet = some x
    · rw [if_pos hx, if_pos ⟨admits, hx⟩]
      rfl
    · rw [if_neg hx, if_neg fun h => hx h.2]
      rfl
  · have gen : (completed s i done).table[i].gen = s.table[i].gen := by rw [completed_table, if_pos rfl]
    rw [table, getElem_set_fin, if_pos rfl]
    exact congrArg (fun g => (⟨g + 1, none⟩ : Slot)) gen
  · rw [held, getElem_set_fin, if_pos rfl]
    rfl
  · rw [queues, enterRecord_queues, if_pos rfl]
    rfl

/-- A record that waits: its job stands COMPLETE in its slot. -/
theorem ended_of_not_admits {s : State} {i : SlotNo} {done : Job} (full : ¬ s.queues[done.port].admits = true) :
    ended s ((completed s i done).offerJob i done) i done := by
  rw [offerJob_of_not_admits (s := completed s i done) full, completed_handleAt]
  refine ⟨fun q => ?_, fun m hm => ?_, fun p hp => ⟨?_, rfl⟩, fun x => ?_, fun admits => absurd admits full, fun _ => ⟨?_, rfl, ?_⟩⟩
  · exact completed_pages s i done q
  · exact (completed_table s i m done).trans (if_neg hm.symm)
  · exact (State.setQueue_queues_get (completed s i done) done.port _ p).trans (if_neg hp.symm)
  · rw [if_neg fun h => full h.1]
    rfl
  · exact (completed_table s i i done).trans (if_pos rfl)
  · exact (State.setQueue_queues_get (completed s i done) done.port _ done.port).trans (if_pos rfl)

/-- A job that enters COMPLETE ends as R49, R50, R150 and R151 say, whether its record enters or waits. -/
theorem completeJob_ended {s : State} {i : SlotNo} {j : Job} (hj : s.jobAt i = some j) (o : EndOutcome) (v : Verdict) :
    ended s (s.completeJob i o v) i (endedAs j o v) := by
  rw [completeJob_of_some hj]
  by_cases admits : s.queues[(endedAs j o v).port].admits = true
  · exact ended_of_admits admits
  · exact ended_of_not_admits admits

/-! ### Jobs end together (R28, R90) -/

/-- The jobs of `s` that `which` selects and that have left the table in `t`, counted. -/
def gone (s t : State) (which : Job → Bool) : Nat :=
  (List.finRange 16).countP fun i => (t.jobAt i).isNone && (s.jobAt i).any which

/-- From `s` to `t` exactly the jobs of the slots `l` have ended with outcome `o` and no result, in this order. -/
structure Swept (s t : State) (l : List SlotNo) (o : EndOutcome) : Prop where
  table : ∀ i, i ∉ l → t.table[i] = s.table[i]
  job : ∀ i ∈ l, ∀ j, s.jobAt i = some j →
    (t.table[i] = ⟨s.table[i].gen + 1, none⟩ ∧
      .job (s.handleAt i) (j.aborted o) s.ref.lineTime (decide (s.ref.source = .rc)) ∈ t.queues[j.port].queue) ∨
    (t.table[i] = ⟨s.table[i].gen, some (j.aborted o)⟩ ∧ .job (s.handleAt i) ∈ t.queues[j.port].waiting)
  pages : ∀ q : PageNo, t.pages[q] = if ∃ i ∈ l, s.pages[q] = some (s.handleAt i) then none else s.pages[q]
  held : ∀ p : PortNo, t.held[p] = s.held[p] - gone s t fun j => decide (j.port = p)
  limits : ∀ x : SetNo, t.limits[x] = { s.limits[x] with
    references := s.limits[x].references - gone s t fun j => decide (j.limitSet = some x) }
  queue : ∀ p : PortNo, s.queues[p].queue <+: t.queues[p].queue
  waiting : ∀ p : PortNo, s.queues[p].waiting <+: t.queues[p].waiting
  completions : ∀ p : PortNo, t.completions p =
    s.completions p ++ (l.filter fun i => (s.jobAt i).any fun j => decide (j.port = p)).map s.handleAt

theorem gone_self (s : State) (which : Job → Bool) : gone s s which = 0 := by
  refine List.countP_eq_zero.mpr fun i _ => ?_
  cases s.jobAt i <;> simp

theorem Swept.refl (s : State) (o : EndOutcome) : Swept s s [] o where
  table _ _ := rfl
  job i hi := by cases hi
  pages q := by rw [if_neg (by simp)]
  held p := by rw [gone_self, Nat.sub_zero]
  limits x := by rw [gone_self, Nat.sub_zero]
  queue p := ⟨[], List.append_nil _⟩
  waiting p := ⟨[], List.append_nil _⟩
  completions p := by simp

/-- One job in a table of sixteen is counted once. -/
theorem countP_slot (i : SlotNo) (b : Bool) : ((List.finRange 16).countP fun m => decide (m = i) && b) = b.toNat := by
  revert i b
  decide

/-- Where each entry is counted on the left as often as on the right, so is the whole. -/
theorem countP_add {α : Type} {p q r : α → Bool} (l : List α) (h : ∀ x, (p x).toNat = (q x).toNat + (r x).toNat) :
    l.countP p = l.countP q + l.countP r := by
  induction l with
  | nil => rfl
  | cons x l ih =>
    have first := h x
    rw [List.countP_cons, List.countP_cons, List.countP_cons, ih]
    cases hp : p x <;> cases hq : q x <;> cases hr : r x <;> simp_all <;> omega

end Sys2Proof.LaneProofs
end

section
namespace Sys2Proof.LaneProofs

open Sys2Proof Sys2Proof.Machine

/-! ### What a first end and the ends after it make together -/

section

variable {s u : State} {i : SlotNo} {j : Job} {o : EndOutcome} (first : ended s u i (j.aborted o))

include first

theorem ended_enters (admits : s.queues[j.port].admits = true) :
    u.table[i] = ⟨s.table[i].gen + 1, none⟩ ∧ u.held[j.port] = s.held[j.port] - 1 ∧
      u.queues[j.port] = ⟨s.queues[j.port].queue ++ [.job (s.handleAt i) (j.aborted o) s.ref.lineTime (decide (s.ref.source = .rc))],
        s.queues[j.port].waiting, true⟩ := by
  obtain ⟨-, -, -, -, enters, -⟩ := first
  exact enters admits

theorem ended_waits (full : ¬ s.queues[j.port].admits = true) :
    u.table[i] = ⟨s.table[i].gen, some (j.aborted o)⟩ ∧ u.held[j.port] = s.held[j.port] ∧
      u.queues[j.port] = ⟨s.queues[j.port].queue, s.queues[j.port].waiting ++ [.job (s.handleAt i)], s.queues[j.port].attn⟩ := by
  obtain ⟨-, -, -, -, -, waits⟩ := first
  exact waits full

theorem ended_otherPort {p : PortNo} (hp : p ≠ j.port) : u.queues[p] = s.queues[p] ∧ u.held[p] = s.held[p] := by
  obtain ⟨-, -, others, -⟩ := first
  exact others p hp

theorem ended_handleAt {m : SlotNo} (hm : m ≠ i) : u.handleAt m = s.handleAt m := by
  rw [State.handleAt, first.2.1 m hm, State.handleAt]

theorem ended_jobAt {m : SlotNo} (hm : m ≠ i) : u.jobAt m = s.jobAt m := by
  rw [State.jobAt, first.2.1 m hm, State.jobAt]

/-- The slot of a job that ends is free exactly when its record enters. -/
theorem ended_isNone : (u.jobAt i).isNone = s.queues[j.port].admits := by
  by_cases admits : s.queues[j.port].admits = true
  · rw [jobAt_eq (ended_enters first admits).1, admits]
    rfl
  · rw [jobAt_eq (ended_waits first admits).1, Bool.eq_false_iff.mpr admits]
    rfl

/-- One job that ends has left the table if its record enters. -/
theorem gone_of_ended (hj : s.jobAt i = some j) (which : Job → Bool) :
    gone s u which = (s.queues[j.port].admits && which j).toNat := by
  rw [gone, ← countP_slot i]
  refine List.countP_congr fun m _ => ?_
  by_cases hm : m = i
  · subst hm
    rw [ended_isNone first, hj, decide_eq_true rfl]
    rfl
  · rw [ended_jobAt first hm, decide_eq_false hm]
    cases s.jobAt m <;> simp

/-- The jobs that have left the table add up. -/
theorem gone_add {t : State} (hj : s.jobAt i = some j) (stays : t.table[i] = u.table[i]) (which : Job → Bool) :
    gone s t which = gone s u which + gone u t which := by
  refine countP_add _ fun m => ?_
  by_cases hm : m = i
  · subst hm
    have same : t.jobAt m = u.jobAt m := by rw [State.jobAt, stays, State.jobAt]
    rw [same]
    cases u.jobAt m <;> simp
  · rw [ended_jobAt first hm]
    cases s.jobAt m <;> simp

theorem ended_held (p : PortNo) : u.held[p] = s.held[p] - (s.queues[j.port].admits && decide (j.port = p)).toNat := by
  by_cases hp : p = j.port
  · subst hp
    rw [decide_eq_true rfl, Bool.and_true]
    by_cases admits : s.queues[j.port].admits = true
    · rw [(ended_enters first admits).2.1, admits]
      rfl
    · rw [(ended_waits first admits).2.1, Bool.eq_false_iff.mpr admits]
      rfl
  · rw [(ended_otherPort first hp).2, decide_eq_false (Ne.symm hp), Bool.and_false]
    rfl

theorem ended_limits (x : SetNo) : u.limits[x] = { s.limits[x] with
    references := s.limits[x].references - (s.queues[j.port].admits && decide (j.limitSet = some x)).toNat } := by
  obtain ⟨-, -, -, limits, -⟩ := first
  let before : Nat := s.limits[x].references
  have fewer : (if s.queues[j.port].admits = true ∧ j.limitSet = some x then before - 1 else before) =
      before - (s.queues[j.port].admits && decide (j.limitSet = some x)).toNat := by
    by_cases enters : s.queues[j.port].admits = true ∧ j.limitSet = some x
    · rw [if_pos enters, enters.1, decide_eq_true enters.2]
      rfl
    · have kept : (s.queues[j.port].admits && decide (j.limitSet = some x)) = false := by
        rwa [Bool.eq_false_iff, ne_eq, Bool.and_eq_true, decide_eq_true_iff]
      rw [if_neg enters, kept]
      rfl
  exact (limits x).trans (congrArg (fun n => { s.limits[x] with references := n }) fewer)

theorem ended_queue (p : PortNo) : s.queues[p].queue <+: u.queues[p].queue ∧ s.queues[p].waiting <+: u.queues[p].waiting := by
  by_cases hp : p = j.port
  · subst hp
    by_cases admits : s.queues[j.port].admits = true
    · rw [(ended_enters first admits).2.2]
      exact ⟨List.prefix_append _ _, ⟨[], List.append_nil _⟩⟩
    · rw [(ended_waits first admits).2.2]
      exact ⟨⟨[], List.append_nil _⟩, List.prefix_append _ _⟩
  · rw [(ended_otherPort first hp).1]
    exact ⟨⟨[], List.append_nil _⟩, ⟨[], List.append_nil _⟩⟩

/-- The completion of a job that ends stands behind those its port had (R150, R151). -/
theorem ended_completions (p : PortNo) :
    u.completions p = s.completions p ++ if j.port = p then [s.handleAt i] else [] := by
  by_cases hp : p = j.port
  · subst hp
    rw [if_pos rfl]
    by_cases admits : s.queues[j.port].admits = true
    · rw [State.completions, (ended_enters first admits).2.2, State.completions, (admits_iff.mp admits).2]
      simp
    · rw [State.completions, (ended_waits first admits).2.2, State.completions]
      simp
  · rw [State.completions, (ended_otherPort first hp).1, if_neg (Ne.symm hp), List.append_nil]
    rfl

/-- The jobs of other slots that belong to a port are the same after the end, under the same handles. -/
theorem ended_portJobs {l : List SlotNo} (hi : i ∉ l) (p : PortNo) :
    (l.filter fun m => (u.jobAt m).any fun j => decide (j.port = p)).map u.handleAt =
      (l.filter fun m => (s.jobAt m).any fun j => decide (j.port = p)).map s.handleAt := by
  have other {m : SlotNo} (hm : m ∈ l) : m ≠ i := fun h => hi (h ▸ hm)
  have same : (l.filter fun m => (u.jobAt m).any fun j => decide (j.port = p)) =
      l.filter fun m => (s.jobAt m).any fun j => decide (j.port = p) :=
    List.filter_congr fun m hm => by rw [ended_jobAt first (other hm)]
  rw [same]
  exact List.map_congr_left fun m hm => ended_handleAt first (other (List.mem_filter.mp hm).1)

end

section

variable {s u t : State} {i : SlotNo} {j : Job} {o : EndOutcome} {l : List SlotNo} (hj : s.jobAt i = some j) (hi : i ∉ l)
  (first : ended s u i (j.aborted o)) (rest : Swept u t l o)

include hi first rest

/-- A page that the first job or a later one held is free. -/
theorem Swept.cons_pages (q : PageNo) :
    t.pages[q] = if ∃ m ∈ i :: l, s.pages[q] = some (s.handleAt m) then none else s.pages[q] := by
  have other {m : SlotNo} (hm : m ∈ l) : u.handleAt m = s.handleAt m := ended_handleAt first fun h => hi (h ▸ hm)
  rw [rest.pages q]
  by_cases held : s.pages[q] = some (s.handleAt i)
  · have freed : u.pages[q] = none := (first.1 q).trans (if_pos held)
    rw [freed, ite_self, if_pos ⟨i, List.mem_cons_self, held⟩]
  · have stays : u.pages[q] = s.pages[q] := (first.1 q).trans (if_neg held)
    rw [stays]
    refine if_congr ⟨?_, ?_⟩ rfl rfl
    · rintro ⟨m, hm, hq⟩
      exact ⟨m, List.mem_cons_of_mem i hm, hq.trans (congrArg some (other hm))⟩
    · rintro ⟨m, hm, hq⟩
      rcases List.mem_cons.mp hm with rfl | hm
      · exact absurd hq held
      · exact ⟨m, hm, hq.trans (congrArg some (other hm).symm)⟩

/-- The first job stands as its end left it. -/
theorem Swept.cons_job_self :
    (t.table[i] = ⟨s.table[i].gen + 1, none⟩ ∧
      .job (s.handleAt i) (j.aborted o) s.ref.lineTime (decide (s.ref.source = .rc)) ∈ t.queues[j.port].queue) ∨
    (t.table[i] = ⟨s.table[i].gen, some (j.aborted o)⟩ ∧ .job (s.handleAt i) ∈ t.queues[j.port].waiting) := by
  rw [rest.table i hi]
  by_cases admits : s.queues[j.port].admits = true
  · obtain ⟨slot, -, queue⟩ := ended_enters first admits
    refine .inl ⟨slot, (rest.queue j.port).subset ?_⟩
    rw [queue]
    exact List.mem_append_right _ (List.mem_singleton_self _)
  · obtain ⟨slot, -, queue⟩ := ended_waits first admits
    refine .inr ⟨slot, (rest.waiting j.port).subset ?_⟩
    rw [queue]
    exact List.mem_append_right _ (List.mem_singleton_self _)

include hj

/-- The jobs that left the table are the first, if its record entered, and those of the rest. -/
theorem Swept.cons_gone (which : Job → Bool) :
    gone s t which = (s.queues[j.port].admits && which j).toNat + gone u t which := by
  rw [gone_add first hj (rest.table i hi), gone_of_ended first hj]

theorem Swept.cons_completions (p : PortNo) : t.completions p =
    s.completions p ++ ((i :: l).filter fun m => (s.jobAt m).any fun j => decide (j.port = p)).map s.handleAt := by
  rw [rest.completions p, ended_completions first p, ended_portJobs first hi, List.append_assoc, List.filter_cons, hj]
  congr 1
  by_cases hp : j.port = p <;> simp [hp]

/-- A job that ends, and then the jobs of other slots, have ended together. -/
theorem Swept.cons (ref : u.ref = s.ref) : Swept s t (i :: l) o where
  table m hm := by
    have hmi : m ≠ i := fun h => hm (List.mem_cons.mpr (.inl h))
    exact (rest.table m fun h => hm (List.mem_cons_of_mem i h)).trans (first.2.1 m hmi)
  job m hm j' hj' := by
    rcases List.mem_cons.mp hm with rfl | hm
    · cases hj.symm.trans hj'
      exact rest.cons_job_self hi first
    · have other : m ≠ i := fun h => hi (h ▸ hm)
      have now := rest.job m hm j' ((ended_jobAt first other).trans hj')
      rw [first.2.1 m other, ended_handleAt first other, ref] at now
      exact now
  pages := rest.cons_pages hi first
  held p := by rw [rest.held p, rest.cons_gone hj hi first, ← Nat.sub_sub, ended_held first p]
  limits x := by rw [rest.limits x, rest.cons_gone hj hi first, ← Nat.sub_sub, ended_limits first x]
  queue p := (ended_queue first p).1.trans (rest.queue p)
  waiting p := (ended_queue first p).2.trans (rest.waiting p)
  completions := rest.cons_completions hj hi first

end

/-- Jobs that end one after another at one event have ended together. -/
theorem completeAll_swept (o : EndOutcome) {l : List SlotNo} (distinct : l.Nodup) :
    ∀ {s : State}, (∀ i ∈ l, (s.jobAt i).isSome) → Swept s (s.completeAll o l) l o := by
  induction l with
  | nil => exact fun _ => .refl _ o
  | cons i l ih =>
    intro s present
    obtain ⟨hi, distinct⟩ := List.nodup_cons.mp distinct
    obtain ⟨j, hj⟩ := Option.isSome_iff_exists.mp (present i List.mem_cons_self)
    have first : ended s (s.completeJob i o .aborted) i (j.aborted o) := completeJob_ended hj o .aborted
    refine (ih distinct fun m hm => ?_).cons hj hi first (by simp)
    rw [ended_jobAt first fun h => hi (h ▸ hm)]
    exact present m (List.mem_cons_of_mem i hm)

end Sys2Proof.LaneProofs
end

section
namespace Sys2Proof.LaneProofs

open Sys2Proof Sys2Proof.Machine

/-! ### Jobs listed oldest first (R40) -/

/-- The order of `State.oldestFirst`: the older job first, the lower slot first among equal ages (R40). -/
def older (s : State) (a b : SlotNo × Job) : Prop :=
  s.age b.2 < s.age a.2 ∨ (s.age b.2 = s.age a.2 ∧ a.1.val < b.1.val)

theorem older_irrefl {s : State} {a : SlotNo × Job} : ¬ older s a a := by
  unfold older
  omega

theorem age_le_of_older {s : State} {a b : SlotNo × Job} (h : older s a b) : s.age b.2 ≤ s.age a.2 := by
  unfold older at h
  omega

theorem placeByAge_perm (s : State) (x : SlotNo × Job) (l : List (SlotNo × Job)) : (s.placeByAge x l).Perm (x :: l) := by
  induction l with
  | nil => exact .refl _
  | cons y r ih =>
    rw [State.placeByAge]
    split
    · exact .refl _
    · exact (ih.cons y).trans (.swap x y r)

theorem placeByAge_pairwise {s : State} {x : SlotNo × Job} {l : List (SlotNo × Job)} (sorted : l.Pairwise (older s))
    (lower : ∀ y ∈ l, y.1.val < x.1.val) : (s.placeByAge x l).Pairwise (older s) := by
  induction l with
  | nil => exact List.pairwise_singleton _ x
  | cons y r ih =>
    obtain ⟨head, tail⟩ := List.pairwise_cons.mp sorted
    rw [State.placeByAge]
    split
    case isTrue younger =>
      refine List.pairwise_cons.mpr ⟨fun z hz => ?_, sorted⟩
      rcases List.mem_cons.mp hz with rfl | hz
      · exact .inl younger
      · exact .inl (Nat.lt_of_le_of_lt (age_le_of_older (head z hz)) younger)
    case isFalse atLeastAsOld =>
      refine List.pairwise_cons.mpr ⟨fun z hz => ?_, ih tail fun z hz => lower z (List.mem_cons_of_mem y hz)⟩
      rcases List.mem_cons.mp ((placeByAge_perm s x r).subset hz) with rfl | hz
      · have slot := lower y List.mem_cons_self
        unfold older
        omega
      · exact head z hz

theorem foldl_placeByAge_perm (s : State) (l acc : List (SlotNo × Job)) :
    (l.foldl (fun l x => s.placeByAge x l) acc).Perm (acc ++ l) := by
  induction l generalizing acc with
  | nil => rw [List.append_nil]; exact .refl _
  | cons x r ih => exact (ih _).trans (((placeByAge_perm s x acc).append_right r).trans List.perm_middle.symm)

/-- Jobs of rising slots, placed one after another, stand in order of age. -/
theorem foldl_placeByAge_pairwise {s : State} {l acc : List (SlotNo × Job)} (sorted : acc.Pairwise (older s))
    (rising : l.Pairwise fun a b => a.1.val < b.1.val) (lower : ∀ a ∈ acc, ∀ b ∈ l, a.1.val < b.1.val) :
    (l.foldl (fun l x => s.placeByAge x l) acc).Pairwise (older s) := by
  induction l generalizing acc with
  | nil => exact sorted
  | cons x r ih =>
    obtain ⟨head, tail⟩ := List.pairwise_cons.mp rising
    refine ih (placeByAge_pairwise sorted fun y hy => lower y hy x List.mem_cons_self) tail fun a ha b hb => ?_
    rcases List.mem_cons.mp ((placeByAge_perm s x acc).subset ha) with rfl | ha
    · exact head b hb
    · exact lower a ha b (List.mem_cons_of_mem x hb)

theorem selectJobs_rising (s : State) (sel : SlotNo → Job → Bool) : (s.selectJobs sel).Pairwise fun a b => a.1.val < b.1.val := by
  rw [State.selectJobs, List.pairwise_filterMap]
  refine (List.pairwise_lt_finRange 16).imp fun {i i'} lt a ha b hb => ?_
  have slot {i : SlotNo} {a : SlotNo × Job}
      (h : ((s.jobAt i).bind fun j => if sel i j then some (i, j) else none) = some a) : a.1 = i := by
    obtain ⟨j, -, hj⟩ := Option.bind_eq_some_iff.mp h
    split at hj <;> cases hj
    rfl
  rw [slot ha, slot hb]
  exact lt

section

variable (s : State) (sel : SlotNo → Job → Bool)

theorem mem_oldestFirst {i : SlotNo} : i ∈ s.oldestFirst sel ↔ ∃ j, s.jobAt i = some j ∧ sel i j = true := by
  have same : (s.oldestFirst sel).Perm ((s.selectJobs sel).map Prod.fst) := (foldl_placeByAge_perm s _ []).map _
  rw [same.mem_iff, List.mem_map]
  constructor
  · rintro ⟨⟨i, j⟩, h, rfl⟩
    exact ⟨j, mem_selectJobs.mp h⟩
  · rintro ⟨j, h⟩
    exact ⟨(i, j), mem_selectJobs.mpr h, rfl⟩

theorem oldestFirst_pairwise : (s.oldestFirst sel).Pairwise fun i i' =>
    ∀ j j', s.jobAt i = some j → s.jobAt i' = some j' → older s (i, j) (i', j') := by
  rw [State.oldestFirst, List.pairwise_map]
  have sorted := foldl_placeByAge_pairwise (s := s) .nil (selectJobs_rising s sel) (by simp)
  refine sorted.imp_of_mem fun {a b} ha hb ordered j j' hj hj' => ?_
  have job {a : SlotNo × Job} {j : Job} (ha : a ∈ (s.selectJobs sel).foldl (fun l x => s.placeByAge x l) [])
      (hj : s.jobAt a.1 = some j) : a = (a.1, j) := by
    have now := (mem_selectJobs.mp ((foldl_placeByAge_perm s _ []).subset ha)).1
    exact Prod.ext rfl (Option.some.inj (now.symm.trans hj))
  rw [← job ha hj, ← job hb hj']
  exact ordered

theorem oldestFirst_nodup : (s.oldestFirst sel).Nodup := by
  refine (oldestFirst_pairwise s sel).imp_of_mem fun {i i'} hi _ ordered same => ?_
  subst same
  obtain ⟨j, hj, -⟩ := (mem_oldestFirst s sel).mp hi
  exact older_irrefl (ordered j j hj hj)

end

/-! ### A sweep of a selection -/

/-- Jobs that have ended together, listed oldest first, are a selection of the table that has ended at one event. -/
theorem endedTogether_of_swept {s t : State} {o : EndOutcome} {sel : Job → Bool}
    (swept : Swept s t (s.oldestFirst fun _ => sel) o) : endedTogether s t sel o (decide (s.ref.source = .rc)) := by
  have selected {i : SlotNo} : i ∈ (s.oldestFirst fun _ => sel) ↔ ∃ j, s.jobAt i = some j ∧ sel j = true := mem_oldestFirst s _
  refine ⟨fun i none => ?_, fun i j hj => ?_, fun q => ⟨fun i j hj held => ?_, fun other => ?_⟩, swept.held, swept.limits,
    fun p => ⟨swept.queue p, _, swept.completions p, fun i => ?_, ?_⟩⟩
  · exact swept.table i fun h => let ⟨j, hj⟩ := selected.mp h; none j hj
  · exact swept.job i (selected.mpr ⟨j, hj⟩) j hj.1
  · rw [swept.pages q, if_pos ⟨i, selected.mpr ⟨j, hj⟩, held⟩]
  · rw [swept.pages q, if_neg]
    rintro ⟨i, hi, held⟩
    obtain ⟨j, hj⟩ := selected.mp hi
    exact other i j hj held
  · rw [List.mem_filter, selected]
    constructor
    · rintro ⟨⟨j, hj, hsel⟩, port⟩
      rw [hj, Option.any_some, decide_eq_true_iff] at port
      exact ⟨j, ⟨hj, hsel⟩, port⟩
    · rintro ⟨j, ⟨hj, hsel⟩, port⟩
      exact ⟨⟨j, hj, hsel⟩, by rw [hj, Option.any_some, decide_eq_true_iff, port]⟩
  · refine ((oldestFirst_pairwise s _).filter _).imp fun ordered j j' hj hj' => ?_
    exact ordered j j' hj.1 hj'.1

theorem completeAll_oldestFirst (s : State) (o : EndOutcome) (sel : Job → Bool) :
    endedTogether s (s.completeAll o (s.oldestFirst fun _ => sel)) sel o (decide (s.ref.source = .rc)) := by
  refine endedTogether_of_swept (completeAll_swept o (oldestFirst_nodup s _) fun i hi => ?_)
  obtain ⟨j, hj, -⟩ := (mem_oldestFirst s _).mp hi
  rw [hj]
  rfl

/-! ### A lane taken OFFLINE (R28) -/

/-- The jobs QUEUED on a lane end together, and no other job (R28). -/
theorem endQueuedOn_endedTogether (s : State) (k : LaneNo) :
    endedTogether s (s.endQueuedOn k) (fun j => decide (j.lane = k ∧ j.state = .queued)) .laneOffline (decide (s.ref.source = .rc)) := by
  have same : (fun j : Job => decide (j.lane = k ∧ j.state = .queued)) = fun j => decide (j.state = .queued) && decide (j.lane = k) := by
    funext j
    rw [Bool.decide_and, Bool.and_comm]
  rw [same]
  exact completeAll_oldestFirst s .laneOffline _

/-- The lane `k` with its configuration rewritten to OFFLINE. -/
def laneOff (s : State) (k : LaneNo) (owner : Owner) (edge : Edge) (filter : Fin 16) : State :=
  s.setLane k { s.lanes[k] with config := ⟨.offline, owner, edge, filter⟩ }

/-- The part with the fill gone on to the next lane and one more lane counted as written (R31). -/
def countedWritten (s : State) : State :=
  { s with fill := { s.fill with next := s.fill.next + 1, written := s.fill.written + 1 } }

/-- Settles O30: the jobs QUEUED on the lane are swept oldest first from the part with the lane rewritten, which differs from the
part before in what no clause of a sweep reads. -/
theorem laneOffline : Obligations.LaneOffline := by
  intro s k owner edge filter free online
  dsimp only
  refine ⟨fun idle => ⟨(laneOff s k owner edge filter).endQueuedOn k, ?_, ?_, ?_⟩, fun running next more template =>
    ⟨(laneOff (countedWritten s) k owner edge filter).endQueuedOn k, ?_, ?_, ?_⟩⟩
  · refine takes_of_run rfl (by simp) rfl ((writeLane_free ⟨.offline, owner, edge, filter⟩ idle free).trans ?_)
    rw [rewriteLane_of_offline online rfl]
    rfl
  · have sweep := endQueuedOn_endedTogether (laneOff s k owner edge filter) k
    obtain ⟨_, _, _, _, _, frame⟩ := (laneOff s k owner edge filter).endQueuedOn_frame k
    rw [frame] at sweep ⊢
    exact ⟨rfl, sweep, rfl, rfl, rfl, rfl, rfl, rfl, rfl, rfl, rfl, rfl, rfl, rfl, rfl, rfl⟩
  · obtain ⟨_, _, _, _, _, frame⟩ := (laneOff s k owner edge filter).endQueuedOn_frame k
    rw [frame]
    rfl
  · rw [show exec .fillVisit s = execFillVisit s from rfl, execFillVisit_of_lt running next more, visitLane_of_free free, template]
    exact congrArg Host.Outcome.next (rewriteLane_of_offline (s := countedWritten s) (new := ⟨.offline, owner, edge, filter⟩) online rfl)
  · have sweep := endQueuedOn_endedTogether (laneOff (countedWritten s) k owner edge filter) k
    obtain ⟨_, _, _, _, _, frame⟩ := (laneOff (countedWritten s) k owner edge filter).endQueuedOn_frame k
    rw [frame] at sweep ⊢
    exact ⟨rfl, sweep, rfl, rfl, rfl, rfl, rfl, rfl, rfl, rfl, rfl, rfl, rfl, rfl, rfl, rfl⟩
  · obtain ⟨_, _, _, _, _, frame⟩ := (laneOff (countedWritten s) k owner edge filter).endQueuedOn_frame k
    rw [frame]
    rfl

end Sys2Proof.LaneProofs
end

section
namespace Sys2Proof.JobProofs

open Sys2Proof Sys2Proof.Machine Sys2Proof.LaneProofs

/-! ### What every step keeps, said once over the operations on jobs -/

/-- `t` has the job table of `s` and all that belongs to jobs: pages, FIFO, Reduction Unit, held counts, limit sets, windows and the
arbiter's settings. Its channels serve the same jobs with the same counts, and none is ACQUIRING that was not. -/
structure SameJobs (s t : State) : Prop where
  table : t.table = s.table := by rfl
  pages : t.pages = s.pages := by rfl
  fifo : t.fifo = s.fifo := by rfl
  current : t.current = s.current := by rfl
  held : t.held = s.held := by rfl
  limits : t.limits = s.limits := by rfl
  windows : t.windows = s.windows := by rfl
  floor : t.floor = s.floor := by rfl
  profiles : t.profiles = s.profiles := by rfl
  chan : ∀ c : ChannelNo, t.chans[c].job = s.chans[c].job ∧ t.chans[c].n = s.chans[c].n ∧ t.chans[c].captured = s.chans[c].captured ∧
    t.chans[c].baseWord = s.chans[c].baseWord := by exact fun _ => ⟨rfl, rfl, rfl, rfl⟩
  acquiring : ∀ c : ChannelNo, t.chans[c].activity = .acquiring → s.chans[c].activity = .acquiring := by exact fun _ h => h

/-- A channel that serves a job is ACQUIRING (R81). -/
def Served (s : State) : Prop := ∀ c : ChannelNo, s.chans[c].job ≠ none → s.chans[c].activity = .acquiring

/-- The acquisition of channel `c` for the job `h` has ended at its N-th timestamp, before what follows at that event (R87, R111). -/
def handsOver (s : State) (c : ChannelNo) (h : Handle) : State :=
  let t := (s.stopChannel c).modifyJob h.slot fun j => { j with state := .waitReduce, channel := none }
  { t with fifo := t.fifo ++ [h] }.takeHead

/-- All jobs of a port discarded, its queue emptied and the Reduction Unit gone on, before what follows at that event (R59, R157). -/
def cleared (s : State) (p : PortNo) : State :=
  (((s.oldestFirst fun _ j => decide (j.port = p)).foldl State.discard s).emptyQueue p).takeHead

/-- The operations on jobs keep `P`, each where the commands use it. With `L` they may use that every channel with a job is ACQUIRING. -/
structure Kept (L : Prop) (P : State → Prop) : Prop where
  same : ∀ {s t : State}, SameJobs s t → P s → P t
  grant : ∀ {s : State} {c : ChannelNo} {i : SlotNo} {j : Job}, (L → Served s) → s.freeChannel = some c → s.nextJob = some (i, j) →
    P s → P (s.grant c i j)
  expiry : ∀ {s : State} {c : ChannelNo} {h : Handle}, s.chans[c].activity = .acquiring → s.chans[c].job = some h → P s →
    P ((s.stopChannel c).completeJob h.slot .noEdges .aborted)
  timestamp : ∀ {s : State} {c : ChannelNo} {h : Handle} (t : Timestamp), s.chans[c].activity = .acquiring → s.chans[c].job = some h →
    s.chans[c].captured + 1 < s.chans[c].n → P s → P (s.writeTimestamp c h t)
  lastTimestamp : ∀ {s : State} {c : ChannelNo} {h : Handle} (t : Timestamp), s.chans[c].activity = .acquiring →
    s.chans[c].job = some h → s.chans[c].n ≤ s.chans[c].captured + 1 → P s → P (handsOver (s.writeTimestamp c h t) c h)
  runt : ∀ {s : State} {c : ChannelNo} {h : Handle}, s.chans[c].job = some h → P s →
    P (s.modifyJob h.slot fun j => { j with runts := min Config.countLimit (j.runts + 1) })
  loss : ∀ {s : State}, P s → P s.endAcquisitions
  offline : ∀ {s : State} (k : LaneNo), P s → P (s.endQueuedOn k)
  retire : ∀ {s : State} {h : Handle} {j : Job}, s.lookup h = some j → j.state = .complete → P s → P (s.retire h.slot j)
  accept : ∀ {s : State} {p : PortNo} {f : SubmitFields} {a : Admission}, s.validate p f = .ok a → P s →
    P (s.accept p a.slot (s.newJob p f a))
  cancel : ∀ {s : State} {h : Handle} {j : Job}, s.lookup h = some j → j.state ≠ .reducing → j.state ≠ .complete → P s →
    P ((s.withdraw h.slot j).completeJob h.slot .cancelled .aborted)
  takeHead : ∀ {s : State}, P s → P s.takeHead
  portReset : ∀ {s : State} (p : PortNo), P s → P (cleared s p)
  reduced : ∀ {s : State} {h : Handle} {j : Job}, s.current = some h → s.lookup h = some j → P s → P (s.completeReduction h.slot j)
  floor : ∀ {s : State} {v : Nat}, v ≤ 4 → P s → P { s with floor := v }
  profile : ∀ {s : State} {x : Profile} (p : PortNo), x.ceiling ≤ 3 → x.quota ≤ 16 → P s → P { s with profiles := s.profiles.set p x }
  window : ∀ {s : State} {x : Window} (p : PortNo) (w : WindowNo), 1 ≤ x.length → x.length ≤ 16 →
    x.base + x.length ≤ Config.memoryPages → P s → P { s with windows := s.windows.set p (s.windows[p].set w x) }
  writeLimit : ∀ {s : State} {x : SetNo} (i : FieldNo) (a : LimitAction), s.limits[x].state ≠ .frozen → P s →
    P (s.setLimit x (s.limits[x].write i a))
  freeze : ∀ {s : State} {x : SetNo}, s.limits[x].state = .opened → P s → P (s.setLimit x { s.limits[x] with state := .frozen })
  thaw : ∀ {s : State} {x : SetNo}, s.limits[x].state = .frozen → s.limits[x].references = 0 → P s →
    P (s.setLimit x { s.limits[x] with state := .opened })
  reset : ∀ s : State, P s.poweredOn

/-! ### Channels that serve jobs -/

theorem Served.of_wired {s : State} (h : Wired s) : Served s := fun _ => h.acquiring_of_job

theorem Served.of_linksAgree {s : State} (h : s.linksAgree) : Served s := .of_wired (Loose.of_linksAgree h).1

theorem Served.grant {s : State} (h : Served s) (c : ChannelNo) (i : SlotNo) (j : Job) : Served (s.grant c i j) := by
  intro d hd
  rw [grant_chans] at hd ⊢
  split
  · rfl
  · rw [if_neg ‹_›] at hd
    exact h d hd

theorem served_testHold {s : State} : Served s.testHold ↔ Served s := by
  obtain ⟨_, frame⟩ := s.testHold_frame
  rw [frame]
  rfl

/-! ### The operations that follow from those on jobs -/

section

variable {L : Prop} {P : State → Prop} (kept : Kept L P) {s : State}

include kept

theorem Kept.arbitrateUpTo (n : Nat) (served : L → Served s) (h : P s) : P (State.arbitrateUpTo n s) := by
  induction n generalizing s with
  | zero => exact h
  | succ n ih =>
    unfold State.arbitrateUpTo
    split
    · rename_i c i j hc hj
      exact ih (fun l => (served l).grant c i j) (kept.grant served hc hj h)
    · exact h

theorem Kept.arbitrate (served : L → Served s) (h : P s) : P s.arbitrate := kept.arbitrateUpTo 4 served h

theorem Kept.afterAcquisition (served : L → Served s) (h : P s) : P s.afterAcquisition := by
  refine kept.arbitrate (fun l => served_testHold.mpr (served l)) ?_
  obtain ⟨_, frame⟩ := s.testHold_frame
  rw [frame]
  exact kept.same {} h

theorem Kept.offerService (r : ServiceReport) (h : P s) : P (s.offerService r) := by
  obtain ⟨_, frame⟩ := s.offerService_frame r
  rw [frame]
  exact kept.same {} h

theorem Kept.dropCheck (h : P s) : P s.dropCheck := by
  refine kept.same { chan := fun c => ?_, acquiring := fun c => ?_ } h
  · rw [dropCheck_chans]
    split <;> exact ⟨rfl, rfl, rfl, rfl⟩
  · rw [dropCheck_chans]
    split
    · exact nofun
    · exact id

theorem Kept.endCheck (o : EndOutcome) (h : P s) : P (s.endCheck o) := kept.offerService _ (kept.dropCheck h)

theorem Kept.setLane (k : LaneNo) (l : Lane) (h : P s) : P (s.setLane k l) := kept.same {} h

theorem Kept.setDraws (n : Nat) (h : P s) : P { s with draws := n } := kept.same {} h

theorem Kept.reach (fine : Fine) (h : P s) : P (s.reach fine) := kept.same {} h

theorem Kept.admitWaiting (p : PortNo) (w : List Waiting) (h : P s) : P (s.admitWaiting p w) := by
  induction w with
  | nil => exact kept.same {} h
  | cons x w ih =>
    cases x with
    | service r d => exact kept.same {} h
    | job g =>
      unfold State.admitWaiting
      split
      · rename_i j hj
        split
        · rename_i complete
          exact kept.retire (s := (s.setWaiting p w).enterRecord p _) hj complete (kept.same {} h)
        · exact ih
      · exact ih

theorem Kept.dropHead (p : PortNo) (rest : List Record) (h : P s) : P (s.dropHead p rest) := by
  refine kept.same (s := (s.setQueue p { s.queues[p] with queue := rest }).admitWaiting p s.queues[p].waiting) {} ?_
  exact kept.admitWaiting p _ (kept.same {} h)

end

end Sys2Proof.JobProofs
end

section
namespace Sys2Proof.JobProofs

open Sys2Proof Sys2Proof.Machine Sys2Proof.LaneProofs

/-! ### Events of the part's own timers keep what the operations on jobs keep -/

/-- `P`, with the agreement of the links where `L` asks for it. -/
def Sound (L : Prop) (P : State → Prop) (s : State) : Prop := (L → s.linksAgree) ∧ P s

section

variable {L : Prop} {P : State → Prop} (kept : Kept L P) {s t : State} (h : Sound L P s)

include kept h

theorem Sound.finishAcquisition {c : ChannelNo} {g : Handle} {u : Timestamp} (acquiring : s.chans[c].activity = .acquiring)
    (hg : s.chans[c].job = some g) (last : s.chans[c].n ≤ s.chans[c].captured + 1) :
    P ((s.writeTimestamp c g u).finishAcquisition c g) := by
  obtain ⟨links, hs⟩ := h
  refine kept.afterAcquisition (s := handsOver (s.writeTimestamp c g u) c g) (fun l => ?_) (kept.lastTimestamp u acquiring hg last hs)
  have acquires : (s.writeTimestamp c g u).chans[c].activity = .acquiring := by
    rw [writeTimestamp_chans, getElem_set_fin, if_pos rfl]
    exact acquiring
  have stopped := (Loose.of_linksAgree (writeTimestamp_linksAgree (links l) acquiring g u)).stopChannel acquires
  unfold handsOver
  dsimp only
  obtain ⟨_, waits⟩ := ((s.writeTimestamp c g u).stopChannel c).modifyJob_frame g.slot fun j => { j with state := .waitReduce, channel := none }
  rw [waits]
  obtain ⟨_, _, _, taken⟩ := State.takeHead_frame { (s.writeTimestamp c g u).stopChannel c with
    table := _, fifo := ((s.writeTimestamp c g u).stopChannel c).fifo ++ [g] }
  rw [taken]
  exact .of_wired stopped.1

theorem Sound.stamp {c : ChannelNo} {g : Handle} {u : Timestamp} (ht : s.stamp c g u = .next t)
    (acquiring : s.chans[c].activity = .acquiring) (hg : s.chans[c].job = some g) : P t := by
  unfold State.stamp at ht
  dsimp only at ht
  split at ht
  · cases ht
  · split at ht <;> cases ht
    · exact h.finishAcquisition kept acquiring hg ‹_›
    · exact kept.timestamp u acquiring hg (Nat.not_le.mp ‹_›) h.2

theorem Sound.takeEdge {c : ChannelNo} {g : Handle} {k : LaneNo} {u : Timestamp} (ht : s.takeEdge c g k u = .next t)
    (acquiring : s.chans[c].activity = .acquiring) (hg : s.chans[c].job = some g) : P t := by
  obtain ⟨links, hs⟩ := h
  have delivered : Sound L P (s.setLane k s.lanes[k].deliver) :=
    ⟨fun l => setLane_linksAgree (links l) rfl (deliver_qualifier_isSome _), kept.setLane k _ hs⟩
  unfold State.takeEdge at ht
  dsimp only at ht
  split at ht
  · exact delivered.stamp kept ht acquiring hg
  · cases ht
    refine kept.same { chan := fun d => ?_, acquiring := fun d => ?_ } delivered.2
    · rw [State.setChan_chans_get]
      split
      · subst d
        exact ⟨rfl, rfl, rfl, rfl⟩
      · exact ⟨rfl, rfl, rfl, rfl⟩
    · rw [State.setChan_chans_get]
      split
      · subst d
        exact id
      · exact id

theorem Sound.edgeComes {c : ChannelNo} {fine : Fine} (ht : s.edgeComes c fine = .next t) : P t := by
  obtain ⟨links, hs⟩ := h
  unfold State.edgeComes at ht
  dsimp only at ht
  split at ht
  · rename_i g k acquiring hg _
    have settled : Sound L P (s.setLane k (s.lanes[k].settle s.now)) :=
      ⟨fun l => setLane_linksAgree (links l) rfl (Lane.settle_qualifier_isSome _ _), kept.setLane k _ hs⟩
    split at ht
    · exact settled.takeEdge kept ht acquiring hg
    · cases ht
      exact hs
  · cases ht
    exact hs

theorem Sound.timerExpires (c : ChannelNo) : P (s.timerExpires c) := by
  obtain ⟨links, hs⟩ := h
  unfold State.timerExpires
  split
  · rename_i g r acquiring hg _
    split
    · refine kept.afterAcquisition (fun l => ?_) (kept.expiry acquiring hg hs)
      obtain ⟨_, _, _, _, _, frame⟩ := (s.stopChannel c).completeJob_frame g.slot .noEdges .aborted
      rw [frame]
      exact .of_wired ((Loose.of_linksAgree (links l)).stopChannel acquiring).1
    · exact hs
  · exact hs

theorem Sound.referenceLocks : P s.referenceLocks := by
  obtain ⟨links, hs⟩ := h
  unfold State.referenceLocks
  split
  · exact kept.arbitrate (s := { s with ref := s.ref.lock }) (fun l => Served.of_linksAgree (s := s) (links l)) (kept.same {} hs)
  · exact hs

theorem Sound.calEdgeComes (e0 e1 e2 e3 : Int) : P (s.calEdgeComes e0 e1 e2 e3) := by
  obtain ⟨links, hs⟩ := h
  unfold State.calEdgeComes
  split
  · rename_i due
    dsimp only
    generalize Vector.ofFn (fun c : ChannelNo => erringStamp s.verif.nextEdge ([e0, e1, e2, e3].getD c.val 0)) = stamps
    have emitted : P (s.emitCalEdge stamps) := by
      have chan (c : ChannelNo) : (s.emitCalEdge stamps).chans[c] =
        if s.xpoint[c] = .cal then { s.chans[c] with lastTimestamp := some stamps[c] } else s.chans[c] := getElem_ofFn_fin _ c
      refine kept.same { chan := fun c => ?_, acquiring := fun c => ?_ } hs
      · rw [chan]
        split <;> exact ⟨rfl, rfl, rfl, rfl⟩
      · rw [chan]
        split <;> exact id
    split
    · refine kept.arbitrate (fun l => ?_) (kept.endCheck .done (kept.same {} emitted))
      have running : s.verif.running = true := by
        simp only [State.calEdgeDue, Bool.and_eq_true] at due
        exact due.1.1
      have wired := ((emitCalEdge_sameLinks s stamps).wired (Loose.of_linksAgree (links l)).1).dropCheck running
      obtain ⟨_, frame⟩ := State.offerService_frame ({ s.emitCalEdge stamps with
        service := Vector.ofFn fun c : ChannelNo => (s.emitCalEdge stamps).checkedService c } : State).dropCheck
        (({ s.emitCalEdge stamps with
          service := Vector.ofFn fun c : ChannelNo => (s.emitCalEdge stamps).checkedService c } : State).dropCheck.checkReport .done)
      rw [State.endCheck, frame]
      exact .of_wired wired
    · exact emitted
  · exact hs

theorem Sound.loseReference : P s.loseReference := by
  obtain ⟨links, hs⟩ := h
  let u := ({ s with ref := s.ref.lose } : State).refreshAttn 0
  have ended : P u.endAcquisitions := kept.loss (kept.same (t := u) {} hs)
  have checked : P u.endAcquisitions.endCheckIfRunning := by
    unfold State.endCheckIfRunning
    split
    · exact kept.endCheck .refLost ended
    · exact ended
  refine kept.afterAcquisition (fun l => ?_) (kept.same {} checked)
  obtain ⟨wired, still⟩ := endAcquisitions_wired (s := u) (Loose.of_linksAgree (links l)).1
  exact Served.of_wired (s := u.endAcquisitions.endCheckIfRunning) (endCheckIfRunning_wired wired still).1

theorem Sound.absenceComes : P s.absenceComes := by
  obtain ⟨links, hs⟩ := h
  unfold State.absenceComes State.absenceExpires
  split
  · dsimp only
    split
    · exact kept.same {} hs
    · exact kept.same {} hs
    · exact Sound.loseReference kept (s := { s.reach s.ref.expiryPlace with ref := _ }) ⟨links, kept.same {} hs⟩
  · exact hs

theorem Sound.lineTimeAdvances : P s.lineTimeAdvances := by
  unfold State.lineTimeAdvances
  split
  · exact kept.same {} h.2
  · exact h.2

theorem Sound.lineTimeRcAdvances : P s.lineTimeRcAdvances := by
  unfold State.lineTimeRcAdvances
  split
  · exact kept.same {} h.2
  · exact h.2

theorem Sound.refinRises : P s.refinRises := by
  unfold State.refinRises
  dsimp only
  split <;> exact kept.same {} h.2

theorem Sound.inputChanges (k : LaneNo) : P (s.inputChanges k) := by
  unfold State.inputChanges
  dsimp only
  split
  · exact kept.setLane k _ h.2
  · have changed (l : Lane) : P (s.setLane k l) := kept.setLane k l h.2
    split
    · unfold State.countRunt
      split
      · rename_i g hg
        obtain ⟨c, -, hc⟩ := Option.bind_eq_some_iff.mp hg
        exact kept.runt hc (changed _)
      · exact changed _
    · exact changed _

theorem Sound.take (e : TimedEvent) (ht : e.take s = .next t) : Sound L P t := by
  refine ⟨fun l => take_linksAgree e ht (h.1 l), ?_⟩
  cases e with
  | edge c fine => exact h.edgeComes kept ht
  | lock =>
    cases ht
    exact h.referenceLocks kept
  | starvation c =>
    cases ht
    exact h.timerExpires kept c
  | calEdge =>
    cases ht
    exact kept.setDraws _ (h.calEdgeComes kept _ _ _ _)
  | rcLineTime =>
    cases ht
    exact h.lineTimeRcAdvances kept
  | absence =>
    cases ht
    exact h.absenceComes kept
  | lineTime =>
    cases ht
    exact h.lineTimeAdvances kept

end

section

variable {L : Prop} {P : State → Prop} (kept : Kept L P) {s t : State} (h : Sound L P s)

include kept

theorem Sound.reach (fine : Fine) (h : Sound L P s) : Sound L P (s.reach fine) :=
  ⟨fun l => reach_linksAgree s fine (h.1 l), kept.reach fine h.2⟩

include h

theorem Sound.runAll {l : List DueEvent} (ht : runAll l s = .next t) : Sound L P t :=
  runAll_keeps (fun _ fine hu => hu.reach kept fine) (fun e _ _ _ ht hu => hu.take kept e.2 ht) ht h

theorem Sound.passTo {place : Fine} (ht : s.passTo place = .next t) : Sound L P t :=
  State.passTo_keeps (fun _ fine hu => hu.reach kept fine) (fun e _ _ _ ht hu => hu.take kept e.2 ht) ht h

/-- A command's own event, after what is due before its place. -/
theorem Sound.afterPassTo {place : Fine} {f : State → Host.Outcome State Fault Refusal} (ht : andThen (s.passTo place) f = .next t)
    (keeps : ∀ u, Sound L P u → f u = .next t → P t) : P t := by
  obtain ⟨u, hu, hf⟩ := andThen_eq_next.mp ht
  exact keeps u (h.passTo kept hu) hf

theorem Sound.idle (ht : s.idle = .next t) : P t := by
  obtain ⟨u, hu, hr⟩ := State.idle_next ht
  have atEdge := h.runAll kept hu
  refine (Sound.runAll kept (s := u.tick) ⟨fun l => ?_, ?_⟩ hr).2
  · obtain ⟨agrees, ahead⟩ := runAll_ahead hu (h.1 l) (ahead_or_calEdge_due (h.1 l))
    exact tick_linksAgree agrees ahead
  · have chan (c : ChannelNo) : u.tick.chans[c] = u.chans[c].tick := getElem_ofFn_fin _ c
    refine kept.same ⟨u.tick_table, u.tick_pages, u.tick_fifo, u.tick_current, u.tick_held, u.tick_limits, u.tick_windows, u.tick_floor,
      u.tick_profiles, fun c => ?_, fun c => ?_⟩ atEdge.2
    · rw [chan]
      exact ⟨rfl, rfl, rfl, rfl⟩
    · rw [chan]
      exact id

end

end Sys2Proof.JobProofs
end

section
namespace Sys2Proof.JobProofs

open Sys2Proof Sys2Proof.Machine Sys2Proof.LaneProofs

/-! ### Requests keep what the operations on jobs keep -/

section

variable {L : Prop} {P : State → Prop} (kept : Kept L P) {s t : State}

include kept

theorem Kept.request {p : PortNo} {code : Byte} {bytes : List Byte} {run : List Byte → Reply}
    (ht : request p code bytes s run = .next t) (h : P s) (hrun : ∀ payload, Leaves P (run payload)) : P t := by
  rcases request_next ht with rfl | rfl | ⟨_, _, rfl⟩ | ⟨payload, -, -, _, _, u, hu, rfl⟩
  · exact h
  · exact kept.same {} h
  · exact kept.same {} h
  · have left := hrun payload
    rw [hu] at left
    exact kept.same {} left

/-- The same for a request whose reply does not depend on the payload. -/
theorem Kept.fixedRequest {p : PortNo} {code : Byte} {bytes : List Byte} {r : Reply}
    (ht : Machine.request p code bytes s (fun _ => r) = .next t) (h : P s) (left : Leaves P r) : P t := kept.request ht h fun _ => left

end

section

variable {P : State → Prop} {s : State} (h : P s) (p : PortNo) (payload : List Byte)

include h

theorem leaves_readLane : Leaves P (readLane s payload) := by
  unfold readLane
  split <;> exact h

theorem leaves_readChannel : Leaves P (readChannel s payload) := by
  unfold readChannel
  split <;> exact h

theorem leaves_readLimits : Leaves P (readLimits s payload) := by
  unfold readLimits
  split <;> exact h

theorem leaves_readJob : Leaves P (readJob s p payload) := by
  unfold readJob
  split
  · exact h
  · split <;> exact h

theorem leaves_readSamples : Leaves P (readSamples s p payload) := by
  unfold readSamples
  dsimp only
  split
  · exact h
  · split
    · exact h
    · split
      · exact h
      · split
        · exact h
        · split
          · exact h
          · split
            · trivial
            · exact h

end

theorem Sound.served {L : Prop} {P : State → Prop} {s : State} (h : Sound L P s) : L → Served s := fun l => .of_linksAgree (h.1 l)

section

variable {L : Prop} {P : State → Prop} (kept : Kept L P) {s : State} (h : Sound L P s) (p : PortNo) (payload : List Byte)

include kept h

theorem Sound.writeFloor : Leaves P (writeFloor s payload) := by
  unfold Machine.writeFloor
  dsimp only
  split
  · exact h.2
  · have lowered : P { s with floor := byteAt payload 0 } := kept.floor (Nat.not_lt.mp ‹_›) h.2
    split
    · exact kept.arbitrate (s := { s with floor := byteAt payload 0 }) (h.served) lowered
    · exact lowered

theorem Sound.writeProfile : Leaves P (writeProfile s payload) := by
  unfold Machine.writeProfile
  split
  · exact h.2
  · split
    · exact h.2
    · rename_i range
      rw [not_or, Nat.not_lt, Nat.not_lt] at range
      exact kept.profile _ range.1 range.2 h.2

theorem Sound.writeService : Leaves P (writeService s payload) := by
  unfold Machine.writeService
  split
  · rename_i c x _ _
    have written : P (s.setService c x) := kept.same {} h.2
    split
    · exact h.2
    · split
      · exact kept.arbitrate (s := s.setService c x) (h.served) written
      · exact written
  · exact h.2

theorem Sound.release : Leaves P (release s) := by
  unfold Machine.release
  split
  · exact h.2
  · split
    · exact h.2
    · exact kept.arbitrate (s := { s with hold := .running }) (h.served) (kept.same {} h.2)

theorem Sound.takeCompletion : Leaves P (takeCompletion s p) := by
  unfold Machine.takeCompletion
  split
  · exact h.2
  · exact kept.dropHead p _ h.2

theorem Sound.clearReflost : Leaves P (clearReflost s) := by
  unfold Machine.clearReflost
  split
  · exact h.2
  · split
    · exact kept.arbitrate (s := ({ s with ref := { s.ref with reflost := false } } : State).refreshAttn 0) (h.served)
        (kept.same {} h.2)
    · exact h.2

theorem Sound.startCheck (mask : BitVec 4) (e tolerance threshold : Nat) : P (s.startCheck mask e tolerance threshold) := by
  have chan (c : ChannelNo) : (s.startCheck mask e tolerance threshold).chans[c] =
    if mask.getLsbD c.val then { s.chans[c] with activity := .checking } else s.chans[c] := getElem_ofFn_fin _ c
  refine kept.same { chan := fun c => ?_, acquiring := fun c => ?_ } h.2
  · rw [chan]
    split <;> exact ⟨rfl, rfl, rfl, rfl⟩
  · rw [chan]
    split
    · exact nofun
    · exact id

theorem Sound.checkChannels : Leaves P (checkChannels s payload) := by
  unfold Machine.checkChannels
  dsimp only
  split
  · exact h.2
  · split
    · exact h.2
    · split
      · exact h.2
      · split
        · exact h.2
        · exact h.startCheck kept _ _ _ _

theorem Sound.stopCheck : Leaves P (stopCheck s) := by
  unfold Machine.stopCheck
  split
  · exact kept.arbitrate (fun l => .of_linksAgree (stopCheck_linksAgree (h.1 l) ‹_› .stopped)) (kept.endCheck .stopped h.2)
  · exact h.2

theorem Sound.rewriteLane (k : LaneNo) (new : LaneConfig) : P (s.rewriteLane k new) := by
  have rewritten : P (s.setLane k { s.lanes[k] with config := new }) := kept.setLane k _ h.2
  have served : L → Served (s.setLane k { s.lanes[k] with config := new }) := h.served
  have offline := kept.offline k rewritten
  have servedOffline : L → Served ((s.setLane k { s.lanes[k] with config := new }).endQueuedOn k) := fun l => by
    obtain ⟨_, _, _, _, _, frame⟩ := (s.setLane k { s.lanes[k] with config := new }).endQueuedOn_frame k
    rw [frame]
    exact served l
  unfold State.rewriteLane
  dsimp only
  split <;> split
  · exact kept.arbitrate servedOffline offline
  · exact kept.arbitrate served rewritten
  · exact offline
  · exact rewritten

theorem Sound.visitLane (k : LaneNo) : P (s.visitLane k) := by
  unfold State.visitLane
  split
  · exact Sound.rewriteLane kept (s := { s with fill := { s.fill with next := s.fill.next + 1, written := s.fill.written + 1 } })
      ⟨h.1, kept.same {} h.2⟩ k _
  · exact kept.same {} h.2

theorem Sound.writeLane : Leaves P (writeLane s payload) := by
  unfold Machine.writeLane
  split
  · split
    · exact h.2
    · split
      · exact h.2
      · exact h.rewriteLane kept _ _
  · exact h.2

theorem Sound.fillLanes : Leaves P (fillLanes s payload) := by
  unfold Machine.fillLanes
  dsimp only
  split
  · split
    · exact h.2
    · split
      · exact h.2
      · exact kept.same {} h.2
  · exact h.2

omit h in
theorem Kept.endFill (o : EndOutcome) (h : P s) : P (s.endFill o) := kept.offerService _ (kept.same {} h)

theorem Sound.stopFill : Leaves P (stopFill s) := by
  unfold Machine.stopFill
  split
  · exact kept.endFill .stopped h.2
  · exact h.2

theorem Sound.execFillVisit {t : State} (ht : execFillVisit s = .next t) : P t := by
  unfold Machine.execFillVisit at ht
  split at ht
  · split at ht
    · split at ht <;> cases ht
      · exact kept.endFill .done (h.visitLane kept _)
      · exact h.visitLane kept _
    · cases ht
      exact h.2
  · cases ht
    exact h.2

theorem Sound.submit : Leaves P (submit s p payload) := by
  unfold Machine.submit
  split
  · exact h.2
  · rename_i a ha
    refine kept.arbitrate (s := s.accept p a.slot _) (fun l => .of_linksAgree (accept_linksAgree (h.1 l) p _ _)) (kept.accept ha h.2)

theorem Sound.cancelJob {g : Handle} {j : Job} (hj : s.lookup g = some j) (reducing : j.state ≠ .reducing)
    (complete : j.state ≠ .complete) : P (s.cancelJob g.slot j) := by
  have cancelled := kept.cancel hj reducing complete h.2
  unfold State.cancelJob
  dsimp only
  split
  · refine kept.afterAcquisition (fun l => ?_) cancelled
    obtain ⟨_, _, _, _, _, frame⟩ := (s.withdraw g.slot j).completeJob_frame g.slot .cancelled .aborted
    rw [frame]
    exact .of_wired (withdraw_loose (Loose.of_linksAgree (h.1 l)) g.slot j).1
  · exact kept.takeHead cancelled
  · exact cancelled
  · exact cancelled
  · exact cancelled

theorem Sound.cancel : Leaves P (cancel s p payload) := by
  unfold Machine.cancel
  split
  · exact h.2
  · rename_i j hj
    split
    · exact h.2
    · split
      · exact h.2
      · rename_i early
        rw [not_or] at early
        exact h.cancelJob kept hj early.1 early.2

theorem Sound.writeLimit : Leaves P (writeLimit s payload) := by
  unfold Machine.writeLimit
  split
  · split
    · exact h.2
    · split
      · exact h.2
      · exact kept.writeLimit _ _ ‹_› h.2
  · exact h.2

theorem Sound.freeze : Leaves P (freeze s payload) := by
  unfold Machine.freeze
  split
  · exact h.2
  · split
    · exact h.2
    · exact kept.freeze ‹_› h.2
    · exact h.2

theorem Sound.thaw : Leaves P (thaw s payload) := by
  unfold Machine.thaw
  split
  · exact h.2
  · split
    · exact h.2
    · exact h.2
    · split
      · exact h.2
      · exact kept.thaw ‹_› (Nat.eq_zero_of_not_pos ‹_›) h.2

theorem Sound.portReset (q : PortNo) : P (s.portReset q) := by
  have reset := kept.portReset q h.2
  unfold State.portReset
  dsimp only
  split
  · refine kept.afterAcquisition (s := cleared s q) (fun l => ?_) reset
    obtain ⟨_, _, _, frame⟩ :=
      (((s.oldestFirst fun _ j => decide (j.port = q)).foldl State.discard s).emptyQueue q).takeHead_frame
    rw [cleared, frame]
    exact Served.of_wired (s := (s.oldestFirst fun _ j => decide (j.port = q)).foldl State.discard s)
      (discardAll_loose _ (Loose.of_linksAgree (h.1 l))).1
  · exact reset

theorem Sound.resetPort : Leaves P (resetPort s payload) := by
  unfold Machine.resetPort
  split
  · exact h.2
  · exact h.portReset kept _

theorem Sound.writeWindow : Leaves P (writeWindow s payload) := by
  unfold Machine.writeWindow
  split
  · dsimp only
    split
    · exact h.2
    · rename_i range
      rw [not_or, not_or, Nat.not_lt, Nat.not_lt] at range
      exact kept.window _ _ (Nat.one_le_iff_ne_zero.mpr range.1) range.2.1 range.2.2 h.2
  · exact h.2

theorem Sound.execReductionComplete {t : State} (ht : execReductionComplete s = .next t) : P t := by
  unfold Machine.execReductionComplete at ht
  split at ht
  · cases ht
    exact h.2
  · rename_i i j found
    obtain ⟨g, hg, hj⟩ := Option.bind_eq_some_iff.mp found
    obtain ⟨j', hj', same⟩ := Option.map_eq_some_iff.mp hj
    cases same
    split at ht
    · cases ht
    · cases ht
      exact kept.reduced hg hj' h.2

omit h in
theorem Kept.execDeviceReset {t : State} (ht : execDeviceReset s = .next t) : P t := by
  cases ht
  exact kept.same {} (kept.reset s)

/-! ### Every command, and the idle step -/

theorem Sound.exec (i : Instr) {t : State} (ht : exec i s = .next t) : P t := by
  cases i with
  | selectAsserted p =>
    change execSelectAsserted p s = _ at ht
    unfold execSelectAsserted at ht
    split at ht
    · cases ht; exact h.2
    · split at ht <;> cases ht <;> exact kept.same {} h.2
  | selectReleased p => cases ht; exact kept.same {} h.2
  | lastResponseByteClockedOut p =>
    change execLastResponseByteClockedOut p s = _ at ht
    unfold execLastResponseByteClockedOut at ht
    split at ht <;> cases ht
    · exact kept.same {} h.2
    · exact h.2
  | unknownRequest p code bytes => exact kept.fixedRequest (show execUnknownRequest p code bytes s = .next t from ht) h.2 h.2
  | submit p bytes => exact kept.request ht h.2 (h.submit kept p)
  | cancel p bytes => exact kept.request ht h.2 (h.cancel kept p)
  | readJob p bytes => exact kept.request ht h.2 (leaves_readJob h.2 p)
  | takeCompletion p bytes => exact kept.fixedRequest ht h.2 (h.takeCompletion kept p)
  | readStatus p bytes => exact kept.fixedRequest (show execReadStatus p bytes s = .next t from ht) h.2 h.2
  | readSamples p bytes => exact kept.request ht h.2 (leaves_readSamples h.2 p)
  | readLane p bytes => exact kept.request ht h.2 (leaves_readLane h.2)
  | readLimits p bytes => exact kept.request ht h.2 (leaves_readLimits h.2)
  | readChannel p bytes => exact kept.request ht h.2 (leaves_readChannel h.2)
  | readReference p bytes => exact kept.fixedRequest (show execReadReference p bytes s = .next t from ht) h.2 h.2
  | resetOwnPort p bytes => exact kept.fixedRequest (show execResetOwnPort p bytes s = .next t from ht) h.2 (h.portReset kept p)
  | resetPort p bytes => exact kept.request ht h.2 (h.resetPort kept)
  | writeLane p bytes => exact kept.request ht h.2 (h.writeLane kept)
  | fillLanes p bytes => exact kept.request ht h.2 (h.fillLanes kept)
  | fillVisit => exact h.execFillVisit kept ht
  | stopFill p bytes => exact kept.fixedRequest (show execStopFill p bytes s = .next t from ht) h.2 (h.stopFill kept)
  | writeWindow p bytes => exact kept.request ht h.2 (h.writeWindow kept)
  | writeProfile p bytes => exact kept.request ht h.2 (h.writeProfile kept)
  | writeFloor p bytes => exact kept.request ht h.2 (h.writeFloor kept)
  | writeLimit p bytes => exact kept.request ht h.2 (h.writeLimit kept)
  | freeze p bytes => exact kept.request ht h.2 (h.freeze kept)
  | thaw p bytes => exact kept.request ht h.2 (h.thaw kept)
  | hold p bytes =>
    have held : P { s with hold := s.heldBy } := kept.same {} h.2
    exact kept.fixedRequest (show execHold p bytes s = .next t from ht) h.2 held
  | release p bytes => exact kept.fixedRequest (show execRelease p bytes s = .next t from ht) h.2 (h.release kept)
  | checkChannels p bytes => exact kept.request ht h.2 (h.checkChannels kept)
  | stopCheck p bytes => exact kept.fixedRequest (show execStopCheck p bytes s = .next t from ht) h.2 (h.stopCheck kept)
  | writeService p bytes => exact kept.request ht h.2 (h.writeService kept)
  | clearReflost p bytes => exact kept.fixedRequest (show execClearReflost p bytes s = .next t from ht) h.2 (h.clearReflost kept)
  | clearRefEvents p bytes =>
    have emptied : P { s with ref := { s.ref with first := none, latest := none } } := kept.same {} h.2
    exact kept.fixedRequest (show execClearRefEvents p bytes s = .next t from ht) h.2 emptied
  | refinRisingEdge => exact h.afterPassTo kept ht fun u hu hf => by cases hf; exact hu.refinRises kept
  | referenceLocked => cases ht; exact h.referenceLocks kept
  | absenceExpiry =>
    change execAbsenceExpiry s = _ at ht
    unfold execAbsenceExpiry at ht
    split at ht
    · exact h.afterPassTo kept ht fun u hu hf => by cases hf; exact hu.absenceComes kept
    · cases ht; exact h.2
  | lineTimeAdvance => cases ht; exact h.lineTimeAdvances kept
  | lineTimeRcAdvance =>
    change execLineTimeRcAdvance s = _ at ht
    unfold execLineTimeRcAdvance at ht
    split at ht
    · exact h.afterPassTo kept ht fun u hu hf => by cases hf; exact hu.lineTimeRcAdvances kept
    · cases ht; exact h.2
  | laneInputTransition k fine =>
    change execLaneInputTransition k fine s = _ at ht
    unfold execLaneInputTransition at ht
    split at ht
    · cases ht; exact h.2
    · exact h.afterPassTo kept ht fun u hu hf => by cases hf; exact hu.inputChanges kept k
  | qualifiedEdge c fine => exact h.afterPassTo kept ht fun u hu hf => hu.edgeComes kept hf
  | starvationExpiry c =>
    change execStarvationExpiry c s = _ at ht
    unfold execStarvationExpiry at ht
    split at ht
    · split at ht
      · exact h.afterPassTo kept ht fun u hu hf => by cases hf; exact hu.timerExpires kept c
      · cases ht; exact h.2
    · cases ht; exact h.2
  | reductionComplete => exact h.execReductionComplete kept ht
  | calEdge e0 e1 e2 e3 =>
    change execCalEdge e0 e1 e2 e3 s = _ at ht
    unfold execCalEdge at ht
    split at ht
    · exact h.afterPassTo kept ht fun u hu hf => by cases hf; exact hu.calEdgeComes kept e0 e1 e2 e3
    · cases ht; exact h.2
  | deviceReset => exact kept.execDeviceReset ht
  | deviceResetRelease => cases ht; exact kept.same {} h.2
  | powerOnReset => cases ht; exact kept.reset s
  | powerOnSettleExpiry => cases ht; exact kept.same {} h.2

/-- What the operations on jobs keep, every step keeps. -/
theorem Sound.step {t : State} (ht : step s = .next t) : P t := by
  unfold Machine.step at ht
  split at ht
  · rename_i i rest _
    exact Sound.exec kept (s := { s with pending := rest }) ⟨h.1, kept.same {} h.2⟩ i ht
  · exact h.idle kept ht

end

end Sys2Proof.JobProofs
end

section
namespace Sys2Proof.JobProofs

open Sys2Proof Sys2Proof.Machine Sys2Proof.LaneProofs

/-- A handle names the job of its slot where the generations are the same (R38). -/
theorem lookup_eq_some {s : State} {h : Handle} {j : Job} :
    s.lookup h = some j ↔ s.table[h.slot].gen = h.gen ∧ s.jobAt h.slot = some j := by
  rw [State.lookup]
  split
  · exact ⟨fun found => ⟨‹_›, found⟩, And.right⟩
  · exact ⟨nofun, fun found => absurd found.1 ‹_›⟩

/-! ### Held counts and reference counts (R47, R134) -/

/-- The port and the limit set of the job in slot `i`: what the counts read of it. -/
def label (s : State) (i : SlotNo) : Option (PortNo × Option SetNo) := (s.jobAt i).map fun j => (j.port, j.limitSet)

theorem any_port_eq {s t : State} {i : SlotNo} (h : label t i = label s i) (p : PortNo) :
    ((t.jobAt i).any fun j => decide (j.port = p)) = (s.jobAt i).any fun j => decide (j.port = p) := by
  have read (u : State) : ((u.jobAt i).any fun j => decide (j.port = p)) = (label u i).any fun l => decide (l.1 = p) := by
    rw [label, Option.any_map]
  rw [read, read, h]

theorem any_limitSet_eq {s t : State} {i : SlotNo} (h : label t i = label s i) (x : SetNo) :
    ((t.jobAt i).any fun j => decide (j.limitSet = some x)) = (s.jobAt i).any fun j => decide (j.limitSet = some x) := by
  have read (u : State) : ((u.jobAt i).any fun j => decide (j.limitSet = some x)) = (label u i).any fun l => decide (l.2 = some x) := by
    rw [label, Option.any_map]
  rw [read, read, h]

theorem mem_limitSet_of_label {s t : State} {i : SlotNo} (h : label t i = label s i) {j : Job} (hj : j ∈ t.jobAt i) :
    ∃ j' ∈ s.jobAt i, j'.limitSet = j.limitSet := by
  rw [label, Option.mem_def.mp hj, label, Option.map_some, eq_comm, Option.map_eq_some_iff] at h
  obtain ⟨j', hj', same⟩ := h
  exact ⟨j', hj', (Prod.mk.inj same).2⟩

/-- The counts read ports and limit sets of the table, held counts and limit sets, and nothing else. -/
theorem countsAgree_of_label {s t : State} (h : s.countsAgree) (labels : ∀ i, label t i = label s i)
    (held : ∀ p : PortNo, t.held[p] = s.held[p]) (limits : ∀ x : SetNo, t.limits[x] = s.limits[x]) : t.countsAgree := by
  obtain ⟨ports, references, frozen, empty⟩ := h
  refine ⟨fun p => ?_, fun x => ?_, fun i j hj => ?_, ?_⟩
  · rw [held, ports, State.countJobs, State.countJobs]
    exact List.countP_congr fun i _ => by rw [any_port_eq (labels i)]
  · rw [limits, references, State.countJobs, State.countJobs]
    exact List.countP_congr fun i _ => by rw [any_limitSet_eq (labels i)]
  · obtain ⟨j', hj', same⟩ := mem_limitSet_of_label (labels i) hj
    intro x hx
    rw [limits]
    exact frozen i j' hj' x (same ▸ hx)
  · intro x
    rw [limits]
    exact empty x

/-- Where one slot is free in `t` that holds a job in `s`, and all others count the same, that job makes the difference. -/
theorem countJobs_of_left {s t : State} {i : SlotNo} {j : Job} (hj : s.jobAt i = some j) (free : t.jobAt i = none) (sel : Job → Bool)
    (other : ∀ m, m ≠ i → (t.jobAt m).any sel = (s.jobAt m).any sel) : s.countJobs sel = t.countJobs sel + (sel j).toNat := by
  rw [← countP_slot i, State.countJobs, State.countJobs]
  refine countP_add _ fun m => ?_
  by_cases hm : m = i
  · subst hm
    rw [hj, free, decide_eq_true rfl]
    simp
  · rw [other m hm, decide_eq_false hm]
    simp

/-- The job `j` of slot `i` in `s` is not in `t`, and its port's held count and its set's reference count are what they are without it. -/
structure Left (s t : State) (i : SlotNo) (j : Job) : Prop where
  job : s.jobAt i = some j
  free : t.jobAt i = none
  other : ∀ m, m ≠ i → label t m = label s m
  held : ∀ p : PortNo, t.held[p] = s.held[p] - (decide (j.port = p)).toNat
  limits : ∀ x : SetNo, t.limits[x] = { s.limits[x] with references := s.limits[x].references - (decide (j.limitSet = some x)).toNat }

/-- A job that leaves the table with its counts leaves them right. -/
theorem Left.countsAgree {s t : State} {i : SlotNo} {j : Job} (left : Left s t i j) (h : s.countsAgree) : t.countsAgree := by
  obtain ⟨ports, references, frozen, empty⟩ := h
  refine ⟨fun p => ?_, fun x => ?_, fun m j' hj' => ?_, fun x hx => ?_⟩
  · rw [left.held, ports, countJobs_of_left left.job left.free _ fun m hm => any_port_eq (left.other m hm) p]
    omega
  · have count := countJobs_of_left left.job left.free _ fun m hm => any_limitSet_eq (left.other m hm) x
    rw [left.limits]
    change s.limits[x].references - _ = _
    rw [references, count]
    omega
  · by_cases hm : m = i
    · subst hm
      rw [left.free] at hj'
      cases hj'
    · obtain ⟨j₀, hj₀, same⟩ := mem_limitSet_of_label (left.other m hm) hj'
      intro x hx
      rw [left.limits]
      exact frozen m j₀ hj₀ x (same ▸ hx)
  · rw [left.limits] at hx ⊢
    exact empty x hx

theorem label_of_table {s t : State} {i : SlotNo} (h : t.table[i] = s.table[i]) : label t i = label s i := by
  rw [label, State.jobAt, h, label, State.jobAt]

/-- The end of a job keeps the counts, whether its record enters or waits. -/
theorem countsAgree_of_ended {s t : State} (h : s.countsAgree) {i : SlotNo} {j done : Job} (hj : s.jobAt i = some j)
    (port : done.port = j.port) (set : done.limitSet = j.limitSet) (e : ended s t i done) : t.countsAgree := by
  obtain ⟨-, slots, ports, limits, enters, waits⟩ := e
  have others (m : SlotNo) (hm : m ≠ i) : label t m = label s m := label_of_table (slots m hm)
  by_cases admits : s.queues[done.port].admits = true
  · obtain ⟨slot, held, -⟩ := enters admits
    refine Left.countsAgree ⟨hj, jobAt_eq slot, others, fun p => ?_, fun x => ?_⟩ h
    · by_cases hp : j.port = p
      · subst hp
        rw [decide_eq_true rfl, ← port, held]
        rfl
      · rw [decide_eq_false hp, (ports p fun hd => hp (port ▸ hd).symm).2]
        rfl
    · rw [limits]
      by_cases hx : j.limitSet = some x
      · rw [decide_eq_true hx, if_pos ⟨admits, set.trans hx⟩]
        rfl
      · rw [decide_eq_false hx, if_neg fun hd => hx (set.symm.trans hd.2)]
        rfl
  · obtain ⟨slot, held, -⟩ := waits admits
    refine countsAgree_of_label h (fun m => ?_) (fun p => ?_) fun x => ?_
    · by_cases hm : m = i
      · subst hm
        rw [label, jobAt_eq slot, label, hj, Option.map_some, Option.map_some, port, set]
      · exact others m hm
    · by_cases hp : p = done.port
      · rw [hp]
        exact held
      · exact (ports p hp).2
    · rw [limits x]
      rw [if_neg fun hd => admits hd.1]

theorem completeJob_countsAgree {s : State} (h : s.countsAgree) (i : SlotNo) (o : EndOutcome) (v : Verdict) :
    (s.completeJob i o v).countsAgree := by
  cases hj : s.jobAt i with
  | none => rwa [completeJob_of_none hj]
  | some j => exact countsAgree_of_ended (done := endedAs j o v) h hj rfl rfl (completeJob_ended hj o v)

theorem completeAll_countsAgree (o : EndOutcome) (l : List SlotNo) {s : State} (h : s.countsAgree) : (s.completeAll o l).countsAgree := by
  induction l generalizing s with
  | nil => exact h
  | cons i l ih => exact ih (completeJob_countsAgree h i o .aborted)

theorem retire_countsAgree {s : State} (h : s.countsAgree) {i : SlotNo} {j : Job} (hj : s.jobAt i = some j) :
    (s.retire i j).countsAgree := by
  obtain ⟨-, held, limits, -, -⟩ := retire_eq s i j
  refine Left.countsAgree ⟨hj, ?_, fun m hm => label_of_table ?_, fun p => ?_, fun x => ?_⟩ h
  · rw [State.jobAt, retire_table, if_pos rfl]
  · rw [retire_table, if_neg (Ne.symm hm)]
  · rw [held, getElem_set_fin]
    by_cases hp : j.port = p
    · subst hp
      rw [if_pos rfl, decide_eq_true rfl]
      rfl
    · rw [if_neg hp, decide_eq_false hp]
      rfl
  · rw [limits, dropReference_limits]
    by_cases hx : j.limitSet = some x
    · rw [if_pos hx, decide_eq_true hx]
      rfl
    · rw [if_neg hx, decide_eq_false hx]
      rfl

theorem withdraw_countsAgree {s : State} (h : s.countsAgree) (i : SlotNo) (j : Job) : (s.withdraw i j).countsAgree := by
  obtain ⟨_, _, _, _, _, frame⟩ := s.withdraw_frame i j
  rw [frame]
  exact h

theorem releasePages_countsAgree {s : State} (h : s.countsAgree) (g : Handle) : (s.releasePages g).countsAgree := by
  obtain ⟨_, frame⟩ := releasePages_frame s g
  rw [frame]
  exact h

theorem withdraw_jobAt (s : State) (i m : SlotNo) (j : Job) : (s.withdraw i j).jobAt m = s.jobAt m := by
  obtain ⟨_, _, _, _, _, frame⟩ := s.withdraw_frame i j
  rw [frame]
  rfl

theorem discard_countsAgree {s : State} (h : s.countsAgree) (i : SlotNo) : (s.discard i).countsAgree := by
  cases hj : s.jobAt i with
  | none => rwa [discard_of_none hj]
  | some j =>
    rw [discard_of_some hj]
    refine retire_countsAgree (releasePages_countsAgree (withdraw_countsAgree h i j) _) ?_
    obtain ⟨_, frame⟩ := releasePages_frame (s.withdraw i j) (s.handleAt i)
    rw [frame]
    exact (withdraw_jobAt s i i j).trans hj

theorem discardAll_countsAgree (l : List SlotNo) {s : State} (h : s.countsAgree) : (l.foldl State.discard s).countsAgree := by
  induction l generalizing s with
  | nil => exact h
  | cons i l ih => exact ih (discard_countsAgree h i)

/-- A change of a job that keeps its port and its limit set keeps the counts. -/
theorem modifyJob_countsAgree {s : State} (h : s.countsAgree) (i : SlotNo) {f : Job → Job}
    (kept : ∀ j, (f j).port = j.port ∧ (f j).limitSet = j.limitSet) : (s.modifyJob i f).countsAgree := by
  cases hj : s.jobAt i with
  | none => rwa [State.modifyJob, hj]
  | some j =>
    rw [modifyJob_of_some hj]
    refine countsAgree_of_label h (fun m => ?_) (fun _ => rfl) fun _ => rfl
    by_cases hm : m = i
    · subst hm
      rw [label, setJob_jobAt, label, hj, Option.map_some, Option.map_some, (kept j).1, (kept j).2]
    · refine label_of_table ?_
      rw [setJob_table, if_neg (Ne.symm hm)]

theorem takeHead_countsAgree {s : State} (h : s.countsAgree) : s.takeHead.countsAgree := by
  unfold State.takeHead
  split
  · rename_i g r _ _
    exact modifyJob_countsAgree (s := { s with fifo := r, current := some g }) h g.slot fun _ => ⟨rfl, rfl⟩
  · exact h

theorem stopChannel_countsAgree {s : State} (h : s.countsAgree) (c : ChannelNo) : (s.stopChannel c).countsAgree := by
  obtain ⟨_, _, _, frame⟩ := s.stopChannel_frame c
  rw [frame]
  exact h

theorem writeTimestamp_countsAgree {s : State} (h : s.countsAgree) (c : ChannelNo) (g : Handle) (t : Timestamp) :
    (s.writeTimestamp c g t).countsAgree := by
  have written : ({ s with mem := s.mem.write (s.chans[c].baseWord + s.chans[c].captured) t }.setChan c (s.chans[c].stamped t)).countsAgree := h
  exact modifyJob_countsAgree written g.slot (f := fun j => { j with captured := s.chans[c].captured + 1 }) fun _ => ⟨rfl, rfl⟩

theorem handsOver_countsAgree {s : State} (h : s.countsAgree) (c : ChannelNo) (g : Handle) : (handsOver s c g).countsAgree := by
  have waits := modifyJob_countsAgree (stopChannel_countsAgree h c) g.slot
    (f := fun j => { j with state := .waitReduce, channel := none }) fun _ => ⟨rfl, rfl⟩
  exact takeHead_countsAgree (s := { (s.stopChannel c).modifyJob g.slot fun j => { j with state := .waitReduce, channel := none } with
    fifo := _ }) waits

theorem endAcquisitions_countsAgree {s : State} (h : s.countsAgree) : s.endAcquisitions.countsAgree := by
  refine completeAll_countsAgree .refLost _ ?_
  obtain ⟨_, _, _, frame⟩ := stopAll_frame s.acquiringChannels s
  rw [frame]
  exact h

/-! ### The limit set that a SUBMIT names, and what an acceptance counts (R42, R46) -/

/-- What an accepted SUBMIT has passed (R42). -/
structure Admits (s : State) (p : PortNo) (f : SubmitFields) (a : Admission) : Prop where
  lane : named 32 f.lane = some a.lane
  recipe : f.recipeOk = true
  window : named 8 f.window = some a.window
  length : f.n ≤ s.windows[p][a.window].length * Config.pageWords
  pages : s.anyHeld s.windows[p][a.window].base (pagesFor f.n) = false
  limitSet : s.namedSet f.limitSet = some a.limitSet
  slot : s.freeSlot = some a.slot

theorem admits_of_validate {s : State} {p : PortNo} {f : SubmitFields} {a : Admission} (h : s.validate p f = .ok a) : Admits s p f a := by
  unfold State.validate at h
  split at h
  · cases h
  · split at h
    · cases h
    · split at h
      · cases h
      · split at h
        · cases h
        · rename_i recipe
          split at h
          · cases h
          · split at h
            · cases h
            · split at h
              · cases h
              · rename_i length
                split at h
                · cases h
                · rename_i pages
                  split at h
                  · cases h
                  · split at h
                    · cases h
                    · split at h
                      · cases h
                      · cases h
                        exact ⟨‹_›, by simpa using recipe, ‹_›, Nat.not_lt.mp length, by simpa using pages, ‹_›, ‹_›⟩

/-- A limit set that a SUBMIT may name is FROZEN. -/
theorem frozen_of_namedSet {s : State} {v : Nat} {x : SetNo} (h : s.namedSet v = some (some x)) : s.limits[x].state = .frozen := by
  unfold State.namedSet at h
  split at h
  · cases h
  · split at h
    · split at h <;> cases h
      assumption
    · cases h

theorem freeSlot_jobAt {s : State} {i : SlotNo} (h : s.freeSlot = some i) : s.jobAt i = none := by
  simpa using List.find?_some h

theorem addReference_limits (s : State) (o : Option SetNo) (x : SetNo) : (s.addReference o).limits[x] =
    { s.limits[x] with references := s.limits[x].references + (decide (o = some x)).toNat } := by
  cases o with
  | none => rfl
  | some y =>
    rw [State.addReference, State.setLimit_limits_get]
    by_cases hy : y = x
    · subst hy
      rw [if_pos rfl, decide_eq_true rfl]
      rfl
    · rw [if_neg hy, decide_eq_false fun h => hy (Option.some.inj h)]
      rfl

/-- What an acceptance writes (R46). -/
theorem accept_eq (s : State) (p : PortNo) (i : SlotNo) (j : Job) :
    (s.accept p i j).table = s.table.set i ⟨s.table[i].gen, some j⟩ ∧ (s.accept p i j).held = s.held.set p (s.held[p] + 1) ∧
      (s.accept p i j).limits = (s.addReference j.limitSet).limits ∧
      (s.accept p i j).pages = (s.takePages j.basePage (pagesFor j.n) (s.handleAt i)).pages ∧ (s.accept p i j).chans = s.chans ∧
      (s.accept p i j).fifo = s.fifo ∧ (s.accept p i j).current = s.current := by
  unfold State.accept
  cases j.limitSet <;> exact ⟨rfl, rfl, rfl, rfl, rfl, rfl, rfl⟩

/-- An acceptance counts the job it makes: without it the table and the counts are as they were. -/
theorem accept_countsAgree {s : State} (h : s.countsAgree) {i : SlotNo} {j : Job} (free : s.jobAt i = none)
    (frozenSet : ∀ x ∈ j.limitSet, s.limits[x].state = .frozen) : (s.accept j.port i j).countsAgree := by
  obtain ⟨ports, references, frozen, empty⟩ := h
  obtain ⟨table, held, limits, -⟩ := accept_eq s j.port i j
  let t := s.accept j.port i j
  have here : t.jobAt i = some j := by rw [State.jobAt, table, getElem_set_fin, if_pos rfl]
  have other (m : SlotNo) (hm : m ≠ i) : s.jobAt m = t.jobAt m := by
    rw [State.jobAt, State.jobAt, table, getElem_set_fin, if_neg (Ne.symm hm)]
  have count (sel : Job → Bool) : t.countJobs sel = s.countJobs sel + (sel j).toNat :=
    countJobs_of_left here free sel fun m hm => by rw [other m hm]
  have limit (x : SetNo) : t.limits[x] =
      { s.limits[x] with references := s.limits[x].references + (decide (j.limitSet = some x)).toNat } :=
    (congrArg (fun v : Vector LimitSet 8 => v[x]) limits).trans (addReference_limits s j.limitSet x)
  refine ⟨fun p => ?_, fun x => ?_, fun m j' hj' x hx => ?_, fun x hx => ?_⟩
  · rw [count, held, getElem_set_fin, ← ports]
    by_cases hp : j.port = p
    · subst hp
      rw [if_pos rfl, decide_eq_true rfl]
      rfl
    · rw [if_neg hp, decide_eq_false hp]
      rfl
  · rw [count, limit, ← references]
  · rw [limit]
    by_cases hm : m = i
    · subst hm
      rw [here] at hj'
      cases hj'
      exact frozenSet x hx
    · exact frozen m j' ((other m hm).trans hj') x hx
  · rw [limit] at hx ⊢
    exact empty x hx

/-! ### Limit sets that are written, frozen and thawed (R136 to R138) -/

/-- A limit set may change, but for its reference count, where no job that names it forbids it. -/
theorem setLimit_countsAgree {s : State} (h : s.countsAgree) {x : SetNo} {l : LimitSet} (references : l.references = s.limits[x].references)
    (named : l.state ≠ .frozen → ∀ i : SlotNo, ∀ j ∈ s.jobAt i, j.limitSet ≠ some x) (empty : l.state ≠ .empty) :
    (s.setLimit x l).countsAgree := by
  obtain ⟨ports, counts, frozen, blank⟩ := h
  refine ⟨ports, fun y => ?_, fun i j hj y hy => ?_, fun y hy => ?_⟩
  · refine Eq.trans ?_ (counts y)
    rw [State.setLimit_limits_get]
    split
    · subst y
      exact references
    · rfl
  · rw [State.setLimit_limits_get]
    split
    · subst y
      by_contra hl
      exact named hl i j hj hy
    · exact frozen i j hj y hy
  · rw [State.setLimit_limits_get] at hy ⊢
    split
    · rw [if_pos ‹_›] at hy
      exact absurd hy empty
    · rw [if_neg ‹_›] at hy
      exact blank y hy

/-- A set without references is named by no job (R134). -/
theorem unnamed_of_references {s : State} (h : s.countsAgree) {x : SetNo} (none : s.limits[x].references = 0) (i : SlotNo) :
    ∀ j ∈ s.jobAt i, j.limitSet ≠ some x := by
  intro j hj hx
  have zero := (h.2.1 x).symm.trans none
  rw [State.countJobs, List.countP_eq_zero] at zero
  refine zero i (List.mem_finRange i) ?_
  rw [Option.mem_def.mp hj]
  exact decide_eq_true hx

/-- A set that is not FROZEN is named by no job (R47). -/
theorem unnamed_of_not_frozen {s : State} (h : s.countsAgree) {x : SetNo} (hx : s.limits[x].state ≠ .frozen) (i : SlotNo) :
    ∀ j ∈ s.jobAt i, j.limitSet ≠ some x := fun j hj named => hx (h.2.2.1 i j hj x named)

theorem poweredOn_jobAt (s : State) (i : SlotNo) : s.poweredOn.jobAt i = none :=
  congrArg Slot.job (Vector.getElem_replicate (a := (⟨0, none⟩ : Slot)) i.isLt)

theorem poweredOn_countJobs (s : State) (sel : Job → Bool) : s.poweredOn.countJobs sel = 0 :=
  List.countP_eq_zero.mpr fun i _ => by rw [poweredOn_jobAt]; exact nofun

theorem poweredOn_limits (s : State) (x : SetNo) : s.poweredOn.limits[x] = .initial := Vector.getElem_replicate x.isLt

theorem poweredOn_countsAgree (s : State) : s.poweredOn.countsAgree := by
  refine ⟨fun p => ?_, fun x => ?_, fun i j hj => ?_, fun x _ f => ?_⟩
  · rw [poweredOn_countJobs]
    exact Vector.getElem_replicate p.isLt
  · rw [poweredOn_countJobs, poweredOn_limits]
    rfl
  · rw [poweredOn_jobAt] at hj
    cases hj
  · rw [poweredOn_limits]
    exact Vector.getElem_replicate f.isLt

/-- The operations on jobs keep the counts. -/
theorem kept_countsAgree : Kept False State.countsAgree where
  same same h := by
    refine countsAgree_of_label h (fun i => label_of_table ?_) (fun p => ?_) fun x => ?_
    · rw [same.table]
    · rw [same.held]
    · rw [same.limits]
  grant {s c i j} _ _ next h := by
    refine countsAgree_of_label h (fun m => ?_) (fun _ => rfl) fun _ => rfl
    by_cases hm : i = m
    · subst hm
      rw [label, State.jobAt, grant_table, if_pos rfl, label, (nextJob_eligible next).1]
      rfl
    · refine label_of_table ?_
      rw [grant_table, if_neg hm]
  expiry _ _ h := completeJob_countsAgree (stopChannel_countsAgree h _) _ _ _
  timestamp t _ _ _ h := writeTimestamp_countsAgree h _ _ t
  lastTimestamp t _ _ _ h := handsOver_countsAgree (writeTimestamp_countsAgree h _ _ t) _ _
  runt _ h := modifyJob_countsAgree h _ fun _ => ⟨rfl, rfl⟩
  loss h := endAcquisitions_countsAgree h
  offline _ h := completeAll_countsAgree _ _ h
  retire found _ h := retire_countsAgree h (lookup_eq_some.mp found).2
  accept valid h := by
    have admits := admits_of_validate valid
    refine accept_countsAgree h (freeSlot_jobAt admits.slot) fun x hx => frozen_of_namedSet (admits.limitSet.trans ?_)
    exact congrArg some hx
  cancel _ _ _ h := completeJob_countsAgree (withdraw_countsAgree h _ _) _ _ _
  takeHead := takeHead_countsAgree
  portReset _ h := takeHead_countsAgree (s := (List.foldl State.discard _ _).emptyQueue _) (discardAll_countsAgree _ h)
  reduced {s g j} _ found h := by
    have here : s.jobAt g.slot = some j := (lookup_eq_some.mp found).2
    let r := reduce (s.capture j) j.dEffective j.pnom j.bands
    have formed : (s.setJob g.slot (j.reduced r)).countsAgree := by
      have modified := modifyJob_countsAgree h g.slot (f := fun j => j.reduced r) fun _ => ⟨rfl, rfl⟩
      rwa [modifyJob_of_some here] at modified
    exact takeHead_countsAgree (s := { (s.setJob g.slot (j.reduced r)).completeJob g.slot .done (s.binOf j.limitSet j.runts r) with
      current := none }) (completeJob_countsAgree formed _ _ _)
  floor _ h := h
  profile _ _ _ h := h
  window _ _ _ _ _ h := h
  writeLimit _ _ unfrozen h := setLimit_countsAgree h rfl (fun _ => unnamed_of_not_frozen h unfrozen) nofun
  freeze _ h := setLimit_countsAgree h rfl (fun hl => absurd rfl hl) nofun
  thaw _ none h := setLimit_countsAgree h rfl (fun _ => unnamed_of_references h none) nofun
  reset := poweredOn_countsAgree

/-- Settles O11: no operation on jobs miscounts them, and steps are made of those operations. -/
theorem stepKeepsCounts : Obligations.StepKeepsCounts := fun _ _ h ht => Sound.step kept_countsAgree ⟨False.elim, h⟩ ht

end Sys2Proof.JobProofs
end

section
namespace Sys2Proof.JobProofs

open Sys2Proof Sys2Proof.Machine Sys2Proof.LaneProofs

/-! ### Jobs and acquisitions within Sample Memory (R43, R86, R101) -/

/-- Every job of `t` stands in `s` in the same slot with the same page range. -/
def JobsFrom (s t : State) : Prop := ∀ i : SlotNo, ∀ j ∈ t.jobAt i, ∃ j' ∈ s.jobAt i, j'.n = j.n ∧ j'.basePage = j.basePage

/-- Every acquisition of `t` is one of `s`, as far as its words go. -/
def ChansFrom (s t : State) : Prop := ∀ c : ChannelNo, t.chans[c].activity = .acquiring →
  s.chans[c].activity = .acquiring ∧ t.chans[c].captured = s.chans[c].captured ∧ t.chans[c].n = s.chans[c].n ∧
    t.chans[c].baseWord = s.chans[c].baseWord

/-- From `s` to `t` the windows and the arbiter's settings stay. -/
structure SameSettings (s t : State) : Prop where
  windows : t.windows = s.windows := by rfl
  floor : t.floor = s.floor := by rfl
  profiles : t.profiles = s.profiles := by rfl

/-- The bounds hold where windows and settings stay and no job or acquisition is new. -/
theorem inBounds_of_from {s t : State} (h : s.inBounds) (settings : SameSettings s t) (jobs : JobsFrom s t) (chans : ChansFrom s t) :
    t.inBounds := by
  obtain ⟨windows, ranges, acquisitions, floor, profiles⟩ := h
  refine ⟨by rw [settings.windows]; exact windows, fun i j hj => ?_, fun c hc => ?_, by rw [settings.floor]; exact floor,
    by rw [settings.profiles]; exact profiles⟩
  · obtain ⟨j', hj', n, base⟩ := jobs i j hj
    rw [Job.baseWord, ← n, ← base]
    exact ranges i j' hj'
  · obtain ⟨acquiring, captured, n, base⟩ := chans c hc
    rw [captured, n, base]
    exact acquisitions c acquiring

theorem JobsFrom.refl (s : State) : JobsFrom s s := fun _ j hj => ⟨j, hj, rfl, rfl⟩

theorem JobsFrom.trans {s t u : State} (first : JobsFrom s t) (rest : JobsFrom t u) : JobsFrom s u := by
  intro i j hj
  obtain ⟨j', hj', n, base⟩ := rest i j hj
  obtain ⟨j₀, hj₀, n₀, base₀⟩ := first i j' hj'
  exact ⟨j₀, hj₀, n₀.trans n, base₀.trans base⟩

/-- Where one slot is written and the others stay, that slot alone is to be looked at. -/
theorem JobsFrom.of_slot {s t : State} {i : SlotNo} (other : ∀ m, m ≠ i → t.table[m] = s.table[m])
    (here : ∀ j ∈ t.jobAt i, ∃ j' ∈ s.jobAt i, j'.n = j.n ∧ j'.basePage = j.basePage) : JobsFrom s t := by
  intro m j hj
  by_cases hm : m = i
  · subst hm
    exact here j hj
  · refine ⟨j, ?_, rfl, rfl⟩
    rwa [State.jobAt, other m hm] at hj

theorem JobsFrom.modifyJob (s : State) (i : SlotNo) {f : Job → Job} (kept : ∀ j, (f j).n = j.n ∧ (f j).basePage = j.basePage) :
    JobsFrom s (s.modifyJob i f) := by
  cases hj : s.jobAt i with
  | none =>
    rw [State.modifyJob, hj]
    exact .refl s
  | some j =>
    rw [modifyJob_of_some hj]
    refine .of_slot (i := i) (fun m hm => ?_) fun j' hj' => ?_
    · rw [setJob_table, if_neg (Ne.symm hm)]
    · rw [setJob_jobAt] at hj'
      cases hj'
      exact ⟨j, hj, (kept j).1.symm, (kept j).2.symm⟩

theorem JobsFrom.completeJob (s : State) (i : SlotNo) (o : EndOutcome) (v : Verdict) : JobsFrom s (s.completeJob i o v) := by
  cases hj : s.jobAt i with
  | none =>
    rw [completeJob_of_none hj]
    exact .refl s
  | some j =>
    obtain ⟨-, other, -, -, enters, waits⟩ := completeJob_ended hj o v
    refine .of_slot other fun j' hj' => ?_
    by_cases admits : s.queues[(endedAs j o v).port].admits = true
    · rw [jobAt_eq (enters admits).1] at hj'
      cases hj'
    · rw [jobAt_eq (waits admits).1] at hj'
      cases hj'
      exact ⟨j, hj, rfl, rfl⟩

theorem JobsFrom.completeAll (o : EndOutcome) (l : List SlotNo) (s : State) : JobsFrom s (s.completeAll o l) := by
  induction l generalizing s with
  | nil => exact .refl s
  | cons i l ih => exact (JobsFrom.completeJob s i o .aborted).trans (ih _)

theorem JobsFrom.retire (s : State) (i : SlotNo) (j : Job) : JobsFrom s (s.retire i j) := by
  refine .of_slot (i := i) (fun m hm => ?_) fun j' hj' => ?_
  · rw [retire_table, if_neg (Ne.symm hm)]
  · rw [State.jobAt, retire_table, if_pos rfl] at hj'
    cases hj'

theorem JobsFrom.discardAll (l : List SlotNo) (s : State) : JobsFrom s (l.foldl State.discard s) := by
  induction l generalizing s with
  | nil => exact .refl s
  | cons i l ih =>
    refine JobsFrom.trans (fun m j hj => ?_) (ih _)
    rw [discard_jobAt] at hj
    split at hj
    · cases hj
    · exact ⟨j, hj, rfl, rfl⟩

theorem JobsFrom.takeHead (s : State) : JobsFrom s s.takeHead := by
  unfold State.takeHead
  split
  · rename_i g r _ _
    exact JobsFrom.modifyJob { s with fifo := r, current := some g } g.slot fun _ => ⟨rfl, rfl⟩
  · exact .refl s

theorem ChansFrom.of_eq {s t : State} (h : t.chans = s.chans) : ChansFrom s t := by
  intro c
  rw [h]
  exact fun hc => ⟨hc, rfl, rfl, rfl⟩

theorem ChansFrom.trans {s t u : State} (first : ChansFrom s t) (rest : ChansFrom t u) : ChansFrom s u := by
  intro c hc
  obtain ⟨acquiring, captured, n, base⟩ := rest c hc
  obtain ⟨acquiring₀, captured₀, n₀, base₀⟩ := first c acquiring
  exact ⟨acquiring₀, captured.trans captured₀, n.trans n₀, base.trans base₀⟩

/-- A channel that is left IDLE acquires nothing. -/
theorem ChansFrom.of_idle {s t : State} {c : ChannelNo} (idle : t.chans[c].activity ≠ .acquiring)
    (other : ∀ d, c ≠ d → t.chans[d] = s.chans[d]) : ChansFrom s t := by
  intro d hd
  by_cases hcd : c = d
  · subst hcd
    exact absurd hd idle
  · rw [other d hcd] at hd ⊢
    exact ⟨hd, rfl, rfl, rfl⟩

theorem ChansFrom.stopChannel (s : State) (c : ChannelNo) : ChansFrom s (s.stopChannel c) := by
  refine .of_idle (c := c) ?_ fun d hd => ?_
  · rw [stopChannel_chans, if_pos rfl]
    exact nofun
  · rw [stopChannel_chans, if_neg hd]

theorem ChansFrom.cutChannel (s : State) (c : ChannelNo) : ChansFrom s (s.cutChannel c) := by
  refine .of_idle (c := c) ?_ fun d hd => ?_
  · rw [State.cutChannel, State.setChan_chans_get, if_pos rfl]
    exact nofun
  · rw [State.cutChannel, State.setChan_chans_get, if_neg hd, disconnect_chans]

theorem ChansFrom.stopAll (l : List ChannelNo) (s : State) : ChansFrom s (l.foldl State.stopChannel s) := by
  induction l generalizing s with
  | nil => exact .of_eq rfl
  | cons c l ih => exact (ChansFrom.stopChannel s c).trans (ih _)

theorem ChansFrom.withdraw (s : State) (i : SlotNo) (j : Job) : ChansFrom s (s.withdraw i j) := by
  unfold State.withdraw
  split
  · exact .of_eq rfl
  · exact .of_eq rfl
  · split
    · split
      · exact .cutChannel s _
      · exact .of_eq rfl
    · exact .of_eq rfl
  · exact .of_eq rfl
  · split <;> exact .of_eq rfl

theorem ChansFrom.discard (s : State) (i : SlotNo) : ChansFrom s (s.discard i) := by
  cases hj : s.jobAt i with
  | none =>
    rw [discard_of_none hj]
    exact .of_eq rfl
  | some j =>
    obtain ⟨_, _, _, frame⟩ := ((s.withdraw i j).releasePages (s.handleAt i)).retire_frame i j
    obtain ⟨_, freed⟩ := releasePages_frame (s.withdraw i j) (s.handleAt i)
    rw [discard_of_some hj, frame, freed]
    exact ChansFrom.withdraw s i j

theorem ChansFrom.discardAll (l : List SlotNo) (s : State) : ChansFrom s (l.foldl State.discard s) := by
  induction l generalizing s with
  | nil => exact .of_eq rfl
  | cons i l ih => exact (ChansFrom.discard s i).trans (ih _)

/-! ### The operations on jobs keep the bounds -/

theorem completeJob_inBounds {s : State} (h : s.inBounds) (i : SlotNo) (o : EndOutcome) (v : Verdict) : (s.completeJob i o v).inBounds := by
  refine inBounds_of_from h ?_ (.completeJob s i o v) (.of_eq (by simp))
  obtain ⟨_, _, _, _, _, frame⟩ := s.completeJob_frame i o v
  rw [frame]
  exact {}

theorem stopChannel_inBounds {s : State} (h : s.inBounds) (c : ChannelNo) : (s.stopChannel c).inBounds := by
  refine inBounds_of_from h ?_ (.of_slot (i := 0) (fun m _ => by simp) fun j hj => ⟨j, by simpa [State.jobAt] using hj, rfl, rfl⟩)
    (.stopChannel s c)
  obtain ⟨_, _, _, frame⟩ := s.stopChannel_frame c
  rw [frame]
  exact {}

theorem takeHead_inBounds {s : State} (h : s.inBounds) : s.takeHead.inBounds := by
  refine inBounds_of_from h ?_ (.takeHead s) (.of_eq (by simp))
  obtain ⟨_, _, _, frame⟩ := s.takeHead_frame
  rw [frame]
  exact {}

theorem modifyJob_inBounds {s : State} (h : s.inBounds) (i : SlotNo) {f : Job → Job}
    (kept : ∀ j, (f j).n = j.n ∧ (f j).basePage = j.basePage) : (s.modifyJob i f).inBounds := by
  have jobs := JobsFrom.modifyJob s i kept
  obtain ⟨_, frame⟩ := s.modifyJob_frame i f
  rw [frame] at jobs ⊢
  exact inBounds_of_from h {} jobs (.of_eq rfl)

end Sys2Proof.JobProofs
end

section
namespace Sys2Proof.JobProofs

open Sys2Proof Sys2Proof.Machine Sys2Proof.LaneProofs

theorem JobsFrom.of_table {s t : State} (h : t.table = s.table) : JobsFrom s t := by
  intro i j hj
  rw [State.jobAt, h] at hj
  exact ⟨j, hj, rfl, rfl⟩

theorem JobsFrom.writeTimestamp (s : State) (c : ChannelNo) (g : Handle) (t : Timestamp) : JobsFrom s (s.writeTimestamp c g t) :=
  JobsFrom.trans (t := { s with mem := s.mem.write (s.chans[c].baseWord + s.chans[c].captured) t }.setChan c (s.chans[c].stamped t))
    (.of_table rfl) (.modifyJob _ g.slot (f := fun j => { j with captured := s.chans[c].captured + 1 }) fun _ => ⟨rfl, rfl⟩)

theorem JobsFrom.handsOver (s : State) (c : ChannelNo) (g : Handle) : JobsFrom s (handsOver s c g) := by
  have waits := JobsFrom.modifyJob (s.stopChannel c) g.slot (f := fun j => { j with state := .waitReduce, channel := none })
    fun _ => ⟨rfl, rfl⟩
  exact (JobsFrom.of_table (s.stopChannel_table c)).trans (waits.trans (.takeHead { (s.stopChannel c).modifyJob g.slot
    fun j => { j with state := .waitReduce, channel := none } with fifo := _ }))

theorem handsOver_frame (s : State) (c : ChannelNo) (g : Handle) : ∃ table fifo current,
    handsOver s c g = { s.stopChannel c with table, fifo, current } := by
  obtain ⟨t, waits⟩ := (s.stopChannel c).modifyJob_frame g.slot fun j => { j with state := .waitReduce, channel := none }
  obtain ⟨t', f, u, taken⟩ := State.takeHead_frame { s.stopChannel c with table := t, fifo := (s.stopChannel c).fifo ++ [g] }
  exact ⟨t', f, u, by rw [handsOver, waits, taken]⟩

/-- The end of an acquisition leaves its channel IDLE and the others as they were, whatever timestamp came before. -/
theorem handsOver_chans (s : State) (c d : ChannelNo) (g : Handle) (t : Timestamp) : (handsOver (s.writeTimestamp c g t) c g).chans[d] =
    if c = d then (s.chans[c].stamped t).stopped else s.chans[d] := by
  obtain ⟨_, _, _, frame⟩ := handsOver_frame (s.writeTimestamp c g t) c g
  rw [frame]
  refine (stopChannel_chans _ c d).trans ?_
  rw [writeTimestamp_chans, getElem_set_fin, if_pos rfl, getElem_set_fin]
  split <;> rfl

theorem handsOver_inBounds {s : State} (h : s.inBounds) (c : ChannelNo) (g : Handle) (t : Timestamp) :
    (handsOver (s.writeTimestamp c g t) c g).inBounds := by
  refine inBounds_of_from h ?_ ((JobsFrom.writeTimestamp s c g t).trans (.handsOver _ c g)) (.of_idle (c := c) ?_ fun d hd => ?_)
  · obtain ⟨_, _, _, handed⟩ := handsOver_frame (s.writeTimestamp c g t) c g
    obtain ⟨_, _, _, stopped⟩ := (s.writeTimestamp c g t).stopChannel_frame c
    obtain ⟨_, _, _, written⟩ := writeTimestamp_frame s c g t
    rw [handed, stopped, written]
    exact {}
  · rw [handsOver_chans, if_pos rfl]
    exact nofun
  · rw [handsOver_chans, if_neg hd]

theorem writeTimestamp_inBounds {s : State} (h : s.inBounds) {c : ChannelNo} (acquiring : s.chans[c].activity = .acquiring)
    (more : s.chans[c].captured + 1 < s.chans[c].n) (g : Handle) (t : Timestamp) : (s.writeTimestamp c g t).inBounds := by
  obtain ⟨windows, ranges, acquisitions, settings⟩ := h
  have stamped : ({ s with mem := s.mem.write (s.chans[c].baseWord + s.chans[c].captured) t }.setChan c
      (s.chans[c].stamped t)).inBounds := by
    refine ⟨windows, ranges, fun d hd => ?_, settings⟩
    rw [State.setChan_chans_get] at hd ⊢
    split
    · exact ⟨more, (acquisitions c acquiring).2⟩
    · rw [if_neg ‹_›] at hd
      exact acquisitions d hd
  exact modifyJob_inBounds stamped g.slot (f := fun j => { j with captured := s.chans[c].captured + 1 }) fun _ => ⟨rfl, rfl⟩

theorem grant_inBounds {s : State} (h : s.inBounds) {c : ChannelNo} {i : SlotNo} {j : Job} (hj : s.jobAt i = some j) :
    (s.grant c i j).inBounds := by
  obtain ⟨windows, ranges, acquisitions, settings⟩ := h
  obtain ⟨long, range⟩ := ranges i j hj
  refine ⟨windows, fun m j' hj' => ?_, fun d hd => ?_, settings⟩
  · rw [State.jobAt, grant_table, Option.mem_def] at hj'
    split at hj'
    · cases hj'
      exact ⟨long, range⟩
    · exact ranges m j' hj'
  · rw [grant_chans] at hd ⊢
    split
    · exact ⟨Nat.lt_of_lt_of_le (Nat.zero_lt_succ 7) long, range⟩
    · rw [if_neg ‹_›] at hd
      exact acquisitions d hd

theorem endAcquisitions_inBounds {s : State} (h : s.inBounds) : s.endAcquisitions.inBounds := by
  obtain ⟨_, _, _, stopped⟩ := stopAll_frame s.acquiringChannels s
  have table : (s.acquiringChannels.foldl State.stopChannel s).table = s.table := by rw [stopped]
  have chans : ChansFrom s (s.acquiringChannels.foldl State.stopChannel s) := .stopAll _ s
  have jobs := (JobsFrom.of_table table).trans (JobsFrom.completeAll .refLost s.acquiringJobs _)
  obtain ⟨_, _, _, _, _, frame⟩ := State.completeAll_frame .refLost s.acquiringJobs (s.acquiringChannels.foldl State.stopChannel s)
  refine inBounds_of_from h ?_ jobs (chans.trans (.of_eq ?_))
  · rw [State.endAcquisitions, frame, stopped]
    exact {}
  · rw [State.endAcquisitions, frame]

theorem endQueuedOn_inBounds {s : State} (h : s.inBounds) (k : LaneNo) : (s.endQueuedOn k).inBounds := by
  have jobs : JobsFrom s (s.endQueuedOn k) := .completeAll .laneOffline _ s
  obtain ⟨_, _, _, _, _, frame⟩ := s.endQueuedOn_frame k
  rw [frame] at jobs ⊢
  exact inBounds_of_from h {} jobs (.of_eq rfl)

theorem retire_inBounds {s : State} (h : s.inBounds) (i : SlotNo) (j : Job) : (s.retire i j).inBounds := by
  have jobs := JobsFrom.retire s i j
  obtain ⟨_, _, _, frame⟩ := s.retire_frame i j
  rw [frame] at jobs ⊢
  exact inBounds_of_from h {} jobs (.of_eq rfl)

theorem cleared_inBounds {s : State} (h : s.inBounds) (p : PortNo) : (cleared s p).inBounds := by
  let jobs := s.oldestFirst fun _ j => decide (j.port = p)
  have discarded : (jobs.foldl State.discard s).inBounds := by
    refine inBounds_of_from h ?_ (.discardAll jobs s) (.discardAll jobs s)
    obtain ⟨_, _, _, _, _, _, _, _, _, frame⟩ := State.discardAll_frame jobs s
    rw [frame]
    exact {}
  exact takeHead_inBounds (s := (jobs.foldl State.discard s).emptyQueue p) discarded

/-- A window of eight or more timestamps within Sample Memory gives a page range within it (R42, R43). -/
theorem accept_inBounds {s : State} (h : s.inBounds) {p : PortNo} {f : SubmitFields} {a : Admission} (admits : Admits s p f a) :
    (s.accept p a.slot (s.newJob p f a)).inBounds := by
  obtain ⟨windows, ranges, acquisitions, settings⟩ := h
  obtain ⟨table, -, -, -, chans, -, -⟩ := accept_eq s p a.slot (s.newJob p f a)
  obtain ⟨-, -, inMemory⟩ := windows p a.window
  have long : 8 ≤ f.n := by
    have recipe := admits.recipe
    simp only [SubmitFields.recipeOk, Bool.and_eq_true, decide_eq_true_eq] at recipe
    exact recipe.1.1.1.1.2
  have fits := admits.length
  have range : s.windows[p][a.window].base * Config.pageWords + f.n ≤ Config.memoryWords := by
    rw [Config.pageWords] at fits ⊢
    rw [Config.memoryPages] at inMemory
    rw [Config.memoryWords]
    omega
  obtain ⟨_, frame⟩ := State.addReference_frame (({ s with seqCounter := s.seqCounter + 1 }.setJob a.slot (s.newJob p f a)).takePages
    (s.newJob p f a).basePage (pagesFor (s.newJob p f a).n) (s.handleAt a.slot)) (s.newJob p f a).limitSet
  refine ⟨?_, fun i j hj => ?_, ?_, ?_⟩
  · unfold State.accept
    dsimp only
    rw [frame]
    exact windows
  · rw [State.jobAt, table, getElem_set_fin, Option.mem_def] at hj
    split at hj
    · cases hj
      exact ⟨long, range⟩
    · exact ranges i j hj
  · rw [chans]
    exact acquisitions
  · unfold State.accept
    dsimp only
    rw [frame]
    exact settings

theorem poweredOn_inBounds (s : State) : s.poweredOn.inBounds := by
  refine ⟨fun p w => ?_, fun i j hj => ?_, fun c hc => ?_, Nat.zero_le _, fun p => ?_⟩
  · have window : s.poweredOn.windows[p][w] = .initial := by
      have row : s.poweredOn.windows[p] = Vector.replicate 8 .initial := Vector.getElem_replicate p.isLt
      rw [row]
      exact Vector.getElem_replicate w.isLt
    rw [window]
    decide
  · rw [poweredOn_jobAt] at hj
    cases hj
  · rw [poweredOn_chans] at hc
    cases hc
  · have profile : s.poweredOn.profiles[p] = Profile.initial p := getElem_ofFn_fin _ p
    rw [profile]
    clear profile
    revert p
    decide

/-- The operations on jobs keep the bounds. -/
theorem kept_inBounds : Kept False State.inBounds where
  same same h := by
    refine inBounds_of_from h ⟨same.windows, same.floor, same.profiles⟩ (.of_table same.table) fun c hc => ?_
    obtain ⟨-, n, captured, base⟩ := same.chan c
    exact ⟨same.acquiring c hc, captured, n, base⟩
  grant _ _ next h := grant_inBounds h (nextJob_eligible next).1
  expiry _ _ h := completeJob_inBounds (stopChannel_inBounds h _) _ _ _
  timestamp t acquiring _ more h := writeTimestamp_inBounds h acquiring more _ t
  lastTimestamp t _ _ _ h := handsOver_inBounds h _ _ t
  runt _ h := modifyJob_inBounds h _ fun _ => ⟨rfl, rfl⟩
  loss h := endAcquisitions_inBounds h
  offline k h := endQueuedOn_inBounds h k
  retire _ _ h := retire_inBounds h _ _
  accept valid h := accept_inBounds h (admits_of_validate valid)
  cancel {s g j} _ _ _ h := by
    refine completeJob_inBounds (inBounds_of_from h ?_ (.of_table ?_) (.withdraw s g.slot j)) _ _ _
    all_goals
      obtain ⟨_, _, _, _, _, frame⟩ := s.withdraw_frame g.slot j
      rw [frame]
    exact {}
  takeHead := takeHead_inBounds
  portReset p h := cleared_inBounds h p
  reduced {s g j} _ found h := by
    let r := reduce (s.capture j) j.dEffective j.pnom j.bands
    have formed : (s.setJob g.slot (j.reduced r)).inBounds := by
      have modified := modifyJob_inBounds h g.slot (f := fun j => j.reduced r) fun _ => ⟨rfl, rfl⟩
      rwa [modifyJob_of_some (lookup_eq_some.mp found).2] at modified
    exact takeHead_inBounds (s := { (s.setJob g.slot (j.reduced r)).completeJob g.slot .done (s.binOf j.limitSet j.runts r) with
      current := none }) (completeJob_inBounds formed _ _ _)
  floor range h := ⟨h.1, h.2.1, h.2.2.1, range, h.2.2.2.2⟩
  profile {s x} p ceiling quota h := by
    obtain ⟨windows, ranges, acquisitions, floor, profiles⟩ := h
    refine ⟨windows, ranges, acquisitions, floor, fun q => ?_⟩
    rw [getElem_set_fin]
    split
    · exact ⟨ceiling, quota⟩
    · exact profiles q
  window {s x} p w short long inMemory h := by
    obtain ⟨windows, rest⟩ := h
    refine ⟨fun q v => ?_, rest⟩
    rw [getElem_set_fin]
    split
    · rw [getElem_set_fin]
      split
      · exact ⟨short, long, inMemory⟩
      · exact windows p v
    · exact windows q v
  writeLimit _ _ _ h := h
  freeze _ h := h
  thaw _ _ h := h
  reset := poweredOn_inBounds

/-! ### In bounds every command is answered (R43, R95) -/

theorem edgeComes_answers {s : State} (h : s.inBounds) (c : ChannelNo) (fine : Fine) : ∃ t, s.edgeComes c fine = .next t := by
  obtain ⟨-, -, acquisitions, -⟩ := h
  unfold State.edgeComes
  dsimp only
  split
  · rename_i acquiring _ _
    obtain ⟨more, range⟩ := acquisitions c acquiring
    split
    · unfold State.takeEdge
      dsimp only
      split
      · unfold State.stamp
        dsimp only
        rw [if_neg]
        · split <;> exact ⟨_, rfl⟩
        · change ¬ Config.memoryWords ≤ s.chans[c].baseWord + s.chans[c].captured
          omega
      · exact ⟨_, rfl⟩
    · exact ⟨_, rfl⟩
  · exact ⟨_, rfl⟩

theorem take_answers {s : State} (h : s.inBounds) (e : TimedEvent) : ∃ t, e.take s = .next t := by
  cases e with
  | edge c fine => exact edgeComes_answers h c fine
  | lock | starvation _ | calEdge | rcLineTime | absence | lineTime => exact ⟨_, rfl⟩

theorem reach_inBounds (s : State) (fine : Fine) (h : s.inBounds) : (s.reach fine).inBounds := h

theorem take_inBounds {s t : State} (e : TimedEvent) (ht : e.take s = .next t) (h : s.inBounds) : t.inBounds :=
  (Sound.take kept_inBounds (L := False) ⟨False.elim, h⟩ e ht).2

theorem runAll_answers (l : List DueEvent) {s : State} (h : s.inBounds) : ∃ t, runAll l s = .next t ∧ t.inBounds := by
  induction l generalizing s with
  | nil => exact ⟨s, rfl, h⟩
  | cons e l ih =>
    obtain ⟨u, hu⟩ := take_answers (reach_inBounds s (BitVec.ofNat 16 e.1) h) e.2
    obtain ⟨t, ht, bounds⟩ := ih (take_inBounds e.2 hu (reach_inBounds s _ h))
    exact ⟨t, andThen_eq_next.mpr ⟨u, hu, ht⟩, bounds⟩

theorem passTo_answers {s : State} (h : s.inBounds) (place : Fine) : ∃ t, s.passTo place = .next t ∧ t.inBounds := by
  obtain ⟨u, hu, bounds⟩ := runAll_answers (s.due.filter fun e => e.1 < place.toNat) h
  exact ⟨u.reach place, andThen_eq_next.mpr ⟨u, hu, rfl⟩, bounds⟩

/-- A command with an instant is answered where its own event is. -/
theorem afterPassTo_answers {s : State} (h : s.inBounds) (place : Fine) {f : State → Host.Outcome State Fault Refusal}
    (answers : ∀ u : State, u.inBounds → ∃ t, f u = .next t) : ∃ t, andThen (s.passTo place) f = .next t := by
  obtain ⟨u, hu, bounds⟩ := passTo_answers h place
  obtain ⟨t, ht⟩ := answers u bounds
  exact ⟨t, andThen_eq_next.mpr ⟨u, hu, ht⟩⟩

theorem idle_answers {s : State} (h : s.inBounds) : ∃ t, s.idle = .next t := by
  obtain ⟨u, hu, bounds⟩ := runAll_answers s.due h
  have ticked : u.tick.inBounds := by
    have chan (c : ChannelNo) : u.tick.chans[c] = u.chans[c].tick := getElem_ofFn_fin _ c
    refine inBounds_of_from bounds ⟨u.tick_windows, u.tick_floor, u.tick_profiles⟩ (.of_table u.tick_table) fun c hc => ?_
    rw [chan] at hc ⊢
    exact ⟨hc, rfl, rfl, rfl⟩
  obtain ⟨t, ht, -⟩ := runAll_answers u.tick.ref.dueAtEdge ticked
  exact ⟨t, andThen_eq_next.mpr ⟨u, hu, ht⟩⟩

end Sys2Proof.JobProofs
end

section
namespace Sys2Proof.JobProofs

open Sys2Proof Sys2Proof.Machine Sys2Proof.LaneProofs

/-! ### In bounds every request is answered -/

/-- The reply is an answer, no fault. -/
def Answers (r : Reply) : Prop := ∃ status body t, r = .answer status body t

theorem answers_refuse (status : Status) (s : State) : Answers (refuse status s) := ⟨_, _, _, rfl⟩

theorem answers_succeed (s : State) : Answers (succeed s) := ⟨_, _, _, rfl⟩

/-- Only the rule of a request itself can fault. -/
theorem request_next_of_answers {p : PortNo} {code : Byte} {bytes : List Byte} {s : State} {run : List Byte → Reply}
    (h : ∀ payload, Answers (run payload)) : ∃ t, request p code bytes s run = .next t := by
  unfold request
  split
  · split
    · exact ⟨_, rfl⟩
    · exact ⟨_, rfl⟩
    · rename_i payload _
      dsimp only
      split
      · exact ⟨_, rfl⟩
      · obtain ⟨status, body, u, answer⟩ := h payload
        rw [answer]
        exact ⟨_, rfl⟩
  · exact ⟨_, rfl⟩

section

variable (s : State) (p : PortNo) (payload : List Byte)

theorem submit_answers : Answers (submit s p payload) := by
  unfold submit
  split
  · exact answers_refuse _ s
  · exact ⟨_, _, _, rfl⟩

theorem cancel_answers : Answers (cancel s p payload) := by
  unfold cancel
  split
  · exact answers_refuse _ s
  · split
    · exact answers_refuse _ s
    · split
      · exact answers_refuse _ s
      · exact answers_succeed _

theorem readJob_answers : Answers (readJob s p payload) := by
  unfold readJob
  split
  · exact answers_refuse _ s
  · split
    · exact ⟨_, _, _, rfl⟩
    · exact answers_refuse _ s

theorem takeCompletion_answers : Answers (takeCompletion s p) := by
  unfold takeCompletion
  split <;> exact ⟨_, _, _, rfl⟩

theorem readLane_answers : Answers (readLane s payload) := by
  unfold readLane
  split <;> exact ⟨_, _, _, rfl⟩

theorem readLimits_answers : Answers (readLimits s payload) := by
  unfold readLimits
  split <;> exact ⟨_, _, _, rfl⟩

theorem readChannel_answers : Answers (readChannel s payload) := by
  unfold readChannel
  split <;> exact ⟨_, _, _, rfl⟩

theorem resetPort_answers : Answers (resetPort s payload) := by
  unfold resetPort
  split
  · exact answers_refuse _ s
  · exact answers_succeed _

theorem writeLane_answers : Answers (Machine.writeLane s payload) := by
  unfold Machine.writeLane
  split
  · split
    · exact answers_refuse _ s
    · split
      · exact answers_refuse _ s
      · exact answers_succeed _
  · exact answers_refuse _ s

theorem fillLanes_answers : Answers (fillLanes s payload) := by
  unfold fillLanes
  dsimp only
  split
  · split
    · exact answers_refuse _ s
    · split
      · exact answers_refuse _ s
      · exact answers_succeed _
  · exact answers_refuse _ s

theorem stopFill_answers : Answers (stopFill s) := by
  unfold stopFill
  split <;> exact answers_succeed _

theorem writeWindow_answers : Answers (writeWindow s payload) := by
  unfold writeWindow
  split
  · dsimp only
    split
    · exact answers_refuse _ s
    · exact answers_succeed _
  · exact answers_refuse _ s

theorem writeProfile_answers : Answers (writeProfile s payload) := by
  unfold writeProfile
  split
  · exact answers_refuse _ s
  · split
    · exact answers_refuse _ s
    · exact answers_succeed _

theorem writeFloor_answers : Answers (writeFloor s payload) := by
  unfold writeFloor
  dsimp only
  split
  · exact answers_refuse _ s
  · split <;> exact answers_succeed _

theorem writeLimit_answers : Answers (writeLimit s payload) := by
  unfold writeLimit
  split
  · split
    · exact answers_refuse _ s
    · split
      · exact answers_refuse _ s
      · exact answers_succeed _
  · exact answers_refuse _ s

theorem freeze_answers : Answers (freeze s payload) := by
  unfold freeze
  split
  · exact answers_refuse _ s
  · split
    · exact answers_refuse _ s
    · exact answers_succeed _
    · exact answers_succeed s

theorem thaw_answers : Answers (thaw s payload) := by
  unfold thaw
  split
  · exact answers_refuse _ s
  · split
    · exact answers_succeed s
    · exact answers_succeed s
    · split
      · exact answers_refuse _ s
      · exact answers_succeed _

theorem release_answers : Answers (release s) := by
  unfold release
  split
  · exact answers_refuse _ s
  · split
    · exact answers_refuse _ s
    · exact answers_succeed _

theorem checkChannels_answers : Answers (checkChannels s payload) := by
  unfold checkChannels
  dsimp only
  split
  · exact answers_refuse _ s
  · split
    · exact answers_refuse _ s
    · split
      · exact answers_refuse _ s
      · split
        · exact answers_refuse _ s
        · exact answers_succeed _

theorem stopCheck_answers : Answers (stopCheck s) := by
  unfold stopCheck
  split <;> exact answers_succeed _

theorem writeService_answers : Answers (writeService s payload) := by
  unfold writeService
  split
  · split
    · exact answers_refuse _ s
    · split <;> exact answers_succeed _
  · exact answers_refuse _ s

theorem clearReflost_answers : Answers (clearReflost s) := by
  unfold clearReflost
  split
  · exact answers_refuse _ s
  · split <;> exact answers_succeed _

/-- The words of a window lie within Sample Memory (R101). -/
theorem readSamples_answers {s : State} (h : s.inBounds) : Answers (readSamples s p payload) := by
  obtain ⟨windows, -⟩ := h
  unfold readSamples
  dsimp only
  split
  · exact answers_refuse _ s
  · split
    · exact answers_refuse _ s
    · rename_i w _
      obtain ⟨-, -, inMemory⟩ := windows p w
      split
      · exact answers_refuse _ s
      · split
        · exact answers_refuse _ s
        · rename_i inWindow
          split
          · exact answers_refuse _ s
          · rw [if_neg]
            · exact ⟨_, _, _, rfl⟩
            · rw [Window.word]
              rw [Config.pageWords] at inWindow ⊢
              rw [Config.memoryPages] at inMemory
              rw [Config.memoryWords]
              omega

end

/-- In bounds no command stops the part. -/
theorem exec_answers (i : Instr) {s : State} (h : s.inBounds) : ∃ t, exec i s = .next t := by
  cases i with
  | selectAsserted p =>
    change ∃ t, execSelectAsserted p s = .next t
    unfold execSelectAsserted
    split
    · exact ⟨_, rfl⟩
    · split <;> exact ⟨_, rfl⟩
  | lastResponseByteClockedOut p =>
    change ∃ t, execLastResponseByteClockedOut p s = .next t
    unfold execLastResponseByteClockedOut
    split <;> exact ⟨_, rfl⟩
  | submit p bytes => exact request_next_of_answers (submit_answers s p)
  | cancel p bytes => exact request_next_of_answers (cancel_answers s p)
  | readJob p bytes => exact request_next_of_answers (readJob_answers s p)
  | takeCompletion p bytes => exact request_next_of_answers fun _ => takeCompletion_answers s p
  | readSamples p bytes => exact request_next_of_answers fun payload => readSamples_answers p payload h
  | readLane p bytes => exact request_next_of_answers (readLane_answers s)
  | readLimits p bytes => exact request_next_of_answers (readLimits_answers s)
  | readChannel p bytes => exact request_next_of_answers (readChannel_answers s)
  | resetPort p bytes => exact request_next_of_answers (resetPort_answers s)
  | writeLane p bytes => exact request_next_of_answers (writeLane_answers s)
  | fillLanes p bytes => exact request_next_of_answers (fillLanes_answers s)
  | stopFill p bytes => exact request_next_of_answers fun _ => stopFill_answers s
  | writeWindow p bytes => exact request_next_of_answers (writeWindow_answers s)
  | writeProfile p bytes => exact request_next_of_answers (writeProfile_answers s)
  | writeFloor p bytes => exact request_next_of_answers (writeFloor_answers s)
  | writeLimit p bytes => exact request_next_of_answers (writeLimit_answers s)
  | freeze p bytes => exact request_next_of_answers (freeze_answers s)
  | thaw p bytes => exact request_next_of_answers (thaw_answers s)
  | release p bytes => exact request_next_of_answers fun _ => release_answers s
  | checkChannels p bytes => exact request_next_of_answers (checkChannels_answers s)
  | stopCheck p bytes => exact request_next_of_answers fun _ => stopCheck_answers s
  | writeService p bytes => exact request_next_of_answers (writeService_answers s)
  | clearReflost p bytes => exact request_next_of_answers fun _ => clearReflost_answers s
  | unknownRequest _ _ _ | readStatus _ _ | readReference _ _ | resetOwnPort _ _ | hold _ _ | clearRefEvents _ _ =>
    exact request_next_of_answers fun _ => ⟨_, _, _, rfl⟩
  | fillVisit =>
    change ∃ t, execFillVisit s = .next t
    unfold execFillVisit
    split
    · split
      · split <;> exact ⟨_, rfl⟩
      · exact ⟨_, rfl⟩
    · exact ⟨_, rfl⟩
  | refinRisingEdge => exact afterPassTo_answers h _ fun _ _ => ⟨_, rfl⟩
  | absenceExpiry =>
    change ∃ t, execAbsenceExpiry s = .next t
    unfold execAbsenceExpiry
    split
    · exact afterPassTo_answers h _ fun _ _ => ⟨_, rfl⟩
    · exact ⟨_, rfl⟩
  | lineTimeRcAdvance =>
    change ∃ t, execLineTimeRcAdvance s = .next t
    unfold execLineTimeRcAdvance
    split
    · exact afterPassTo_answers h _ fun _ _ => ⟨_, rfl⟩
    · exact ⟨_, rfl⟩
  | laneInputTransition k fine =>
    change ∃ t, execLaneInputTransition k fine s = .next t
    unfold execLaneInputTransition
    split
    · exact ⟨_, rfl⟩
    · exact afterPassTo_answers h _ fun _ _ => ⟨_, rfl⟩
  | qualifiedEdge c fine => exact afterPassTo_answers h _ fun u bounds => edgeComes_answers bounds c fine
  | starvationExpiry c =>
    change ∃ t, execStarvationExpiry c s = .next t
    unfold execStarvationExpiry
    split
    · split
      · exact afterPassTo_answers h _ fun _ _ => ⟨_, rfl⟩
      · exact ⟨_, rfl⟩
    · exact ⟨_, rfl⟩
  | reductionComplete =>
    change ∃ t, execReductionComplete s = .next t
    unfold execReductionComplete
    split
    · exact ⟨_, rfl⟩
    · rename_i i j found
      obtain ⟨g, -, hj⟩ := Option.bind_eq_some_iff.mp found
      obtain ⟨j', hj', same⟩ := Option.map_eq_some_iff.mp hj
      cases same
      obtain ⟨-, ranges, -⟩ := h
      rw [if_neg (Nat.not_lt.mpr (ranges g.slot j (lookup_eq_some.mp hj').2).2)]
      exact ⟨_, rfl⟩
  | calEdge e0 e1 e2 e3 =>
    change ∃ t, execCalEdge e0 e1 e2 e3 s = .next t
    unfold execCalEdge
    split
    · exact afterPassTo_answers h _ fun _ _ => ⟨_, rfl⟩
    · exact ⟨_, rfl⟩
  | selectReleased _ | referenceLocked | lineTimeAdvance | deviceReset | deviceResetRelease | powerOnReset | powerOnSettleExpiry =>
    exact ⟨_, rfl⟩

/-- Settles O13: in bounds every word that a command reads or writes exists, and the operations on jobs keep the bounds. -/
theorem stepAnswersInBounds : Obligations.StepAnswersInBounds := by
  intro s h
  have answers : ∃ t, step s = .next t := by
    unfold step
    split
    · rename_i i rest _
      exact exec_answers i (s := { s with pending := rest }) h
    · exact idle_answers h
  obtain ⟨t, ht⟩ := answers
  exact ⟨t, ht, Sound.step kept_inBounds (L := False) ⟨False.elim, h⟩ ht⟩

end Sys2Proof.JobProofs
end

section
namespace Sys2Proof.JobProofs

open Sys2Proof Sys2Proof.Machine Sys2Proof.LaneProofs

/-! ### The agreement of the jobs, with some jobs detached -/

/-- The jobs agree, but for the slots of `D`: no channel, no FIFO entry and no reduction refers to them, whatever their state says. The
pages and the fields of every job agree; whether the Reduction Unit has gone on is left open. -/
structure JobsBut (D : SlotNo → Prop) (s : State) : Prop where
  serves : ∀ c : ChannelNo, ∀ h ∈ s.chans[c].job, ¬ D h.slot ∧ ∃ j ∈ s.lookup h, j.state = .acquiring ∧ j.channel = some c
  acquires : ∀ i, ¬ D i → ∀ j ∈ s.jobAt i, (j.state = .acquiring ↔ j.channel.isSome) ∧
    ∀ c ∈ j.channel, s.chans[c].job = some (s.handleAt i) ∧ s.chans[c].n = j.n ∧ s.chans[c].captured = j.captured
  nodup : s.fifo.Nodup
  queued : ∀ h ∈ s.fifo, ¬ D h.slot ∧ s.names h .waitReduce
  waits : ∀ i, ¬ D i → ∀ j ∈ s.jobAt i, j.state = .waitReduce → s.handleAt i ∈ s.fifo
  current : ∀ h ∈ s.current, ¬ D h.slot ∧ s.names h .reducing
  reduces : ∀ i, ¬ D i → ∀ j ∈ s.jobAt i, j.state = .reducing → s.current = some (s.handleAt i)
  pages : s.pagesAgree
  fields : ∀ i, ∀ j ∈ s.jobAt i, j.agrees

/-- No slot is detached. -/
abbrev nowhere : SlotNo → Prop := fun _ => False

theorem jobsAgree_iff (s : State) : s.jobsAgree ↔ JobsBut nowhere s ∧ (s.current = none → s.fifo = []) := by
  constructor
  · rintro ⟨⟨serves, acquires⟩, ⟨nodup, queued, waits, current, reduces, idle⟩, pages, fields⟩
    exact ⟨⟨fun c h hh => ⟨id, serves c h hh⟩, fun i _ => acquires i, nodup, fun h hh => ⟨id, queued h hh⟩, fun i _ => waits i,
      fun h hh => ⟨id, current h hh⟩, fun i _ => reduces i, pages, fields⟩, idle⟩
  · rintro ⟨⟨serves, acquires, nodup, queued, waits, current, reduces, pages, fields⟩, idle⟩
    exact ⟨⟨fun c h hh => (serves c h hh).2, fun i => acquires i id⟩, ⟨nodup, fun h hh => (queued h hh).2, fun i => waits i id,
      fun h hh => (current h hh).2, fun i => reduces i id, idle⟩, pages, fields⟩

theorem JobsBut.congr {s : State} {D E : SlotNo → Prop} (h : JobsBut D s) (same : ∀ i, D i ↔ E i) : JobsBut E s := by
  obtain rfl : D = E := funext fun i => propext (same i)
  exact h

/-! ### What handles name -/

theorem lookup_congr {s t : State} {h : Handle} (slot : t.table[h.slot] = s.table[h.slot]) : t.lookup h = s.lookup h := by
  rw [State.lookup, State.jobAt, slot, State.lookup, State.jobAt]

theorem handleAt_congr {s t : State} {i : SlotNo} (slot : t.table[i] = s.table[i]) : t.handleAt i = s.handleAt i := by
  rw [State.handleAt, slot, State.handleAt]

theorem jobAt_congr {s t : State} {i : SlotNo} (slot : t.table[i] = s.table[i]) : t.jobAt i = s.jobAt i := by
  rw [State.jobAt, slot, State.jobAt]

/-- A handle that names a job is the handle of its slot. -/
theorem handleAt_of_lookup {s : State} {h : Handle} {j : Job} (found : s.lookup h = some j) : s.handleAt h.slot = h := by
  rw [State.handleAt, (lookup_eq_some.mp found).1]

theorem lookup_handleAt (s : State) (i : SlotNo) : s.lookup (s.handleAt i) = s.jobAt i := if_pos rfl

/-- A handle that names a job in one state is not of a slot whose job is in another. -/
theorem slot_ne_of_names {s : State} {h : Handle} {i : SlotNo} {j : Job} {st : JobState} (named : s.names h st) (hj : s.jobAt i = some j)
    (hs : j.state ≠ st) : h.slot ≠ i := by
  obtain ⟨j', found, state⟩ := named
  rintro rfl
  cases (lookup_eq_some.mp found).2.symm.trans hj
  exact hs state

/-- The agreement reads the table, the pages, the FIFO, the unit, and the channels' jobs with their counts. -/
theorem JobsBut.of_same {s t : State} {D : SlotNo → Prop} (h : JobsBut D s) (table : t.table = s.table) (pages : t.pages = s.pages)
    (fifo : t.fifo = s.fifo) (current : t.current = s.current)
    (chan : ∀ c : ChannelNo, t.chans[c].job = s.chans[c].job ∧ t.chans[c].n = s.chans[c].n ∧ t.chans[c].captured = s.chans[c].captured) :
    JobsBut D t := by
  have slot (i : SlotNo) : t.table[i] = s.table[i] := by rw [table]
  have lookup (g : Handle) : t.lookup g = s.lookup g := lookup_congr (slot _)
  have jobAt (i : SlotNo) : t.jobAt i = s.jobAt i := jobAt_congr (slot i)
  have handleAt (i : SlotNo) : t.handleAt i = s.handleAt i := handleAt_congr (slot i)
  have names (g : Handle) (st : JobState) : t.names g st ↔ s.names g st := by rw [State.names, lookup]
  refine ⟨fun c g hg => ?_, fun i hi j hj => ?_, fifo ▸ h.nodup, fun g hg => ?_, fun i hi j hj hs => ?_, fun g hg => ?_,
    fun i hi j hj hs => ?_, ⟨fun q g hg => ?_, fun i j hj => ?_⟩, fun i j hj => ?_⟩
  · rw [(chan c).1] at hg
    rw [lookup]
    exact h.serves c g hg
  · rw [jobAt] at hj
    simp only [chan, handleAt]
    exact h.acquires i hi j hj
  · rw [fifo] at hg
    rw [names]
    exact h.queued g hg
  · rw [jobAt] at hj
    rw [handleAt, fifo]
    exact h.waits i hi j hj hs
  · rw [current] at hg
    rw [names]
    exact h.current g hg
  · rw [jobAt] at hj
    rw [handleAt, current]
    exact h.reduces i hi j hj hs
  · rw [pages] at hg
    rw [lookup]
    exact h.pages.1 q g hg
  · rw [jobAt] at hj
    rw [handleAt, pages]
    exact h.pages.2 i j hj
  · rw [jobAt] at hj
    exact h.fields i j hj

/-! ### Jobs that are detached -/

/-- A QUEUED and a COMPLETE job are referred to by nothing. -/
theorem JobsBut.detach_idle {s : State} {D E : SlotNo → Prop} (h : JobsBut D s)
    (idle : ∀ i, E i → ∀ j ∈ s.jobAt i, j.state = .queued ∨ j.state = .complete) : JobsBut (fun i => D i ∨ E i) s := by
  have apart {g : Handle} {st : JobState} (named : s.names g st) (hs : st ≠ .queued ∧ st ≠ .complete) : ¬ E g.slot := by
    intro he
    obtain ⟨j, found, state⟩ := named
    rcases idle _ he j (lookup_eq_some.mp found).2 with h | h
    · exact hs.1 (state.symm.trans h)
    · exact hs.2 (state.symm.trans h)
  refine ⟨fun c g hg => ?_, fun i hi => h.acquires i fun hd => hi (.inl hd), h.nodup, fun g hg => ?_,
    fun i hi => h.waits i fun hd => hi (.inl hd), fun g hg => ?_, fun i hi => h.reduces i fun hd => hi (.inl hd), h.pages, h.fields⟩
  · obtain ⟨attached, j, found, state, channel⟩ := h.serves c g hg
    exact ⟨not_or.mpr ⟨attached, apart ⟨j, found, state⟩ (by decide)⟩, j, found, state, channel⟩
  · obtain ⟨attached, named⟩ := h.queued g hg
    exact ⟨not_or.mpr ⟨attached, apart named (by decide)⟩, named⟩
  · obtain ⟨attached, named⟩ := h.current g hg
    exact ⟨not_or.mpr ⟨attached, apart named (by decide)⟩, named⟩

section

variable {s t : State} {D : SlotNo → Prop} (h : JobsBut D s)

include h

/-- A channel that stops detaches its job. -/
theorem JobsBut.detach_channel {c : ChannelNo} {g : Handle} (hg : s.chans[c].job = some g) (stopped : t.chans[c].job = none)
    (other : ∀ d, c ≠ d → t.chans[d] = s.chans[d]) (table : t.table = s.table) (pages : t.pages = s.pages) (fifo : t.fifo = s.fifo)
    (current : t.current = s.current) : JobsBut (fun i => D i ∨ i = g.slot) t := by
  obtain ⟨-, j, found, state, channel⟩ := h.serves c g hg
  have here := (lookup_eq_some.mp found).2
  have slot (i : SlotNo) : t.table[i] = s.table[i] := by rw [table]
  have names (g : Handle) (st : JobState) : t.names g st ↔ s.names g st := by rw [State.names, lookup_congr (slot _)]
  refine ⟨fun d g' hg' => ?_, fun i hi j' hj' => ?_, fifo ▸ h.nodup, fun g' hg' => ?_, fun i hi j' hj' => ?_, fun g' hg' => ?_,
    fun i hi j' hj' => ?_, ⟨fun q g' hg' => ?_, fun i j' hj' => ?_⟩, fun i j' hj' => ?_⟩
  · have hcd : c ≠ d := by
      rintro rfl
      rw [stopped] at hg'
      cases hg'
    rw [other d hcd] at hg'
    obtain ⟨attached, j', found', state', channel'⟩ := h.serves d g' hg'
    refine ⟨not_or.mpr ⟨attached, fun same => hcd ?_⟩, j', (lookup_congr (slot _)).trans found', state', channel'⟩
    cases ((same ▸ (lookup_eq_some.mp found').2) : s.jobAt g.slot = some j').symm.trans here
    exact Option.some.inj (channel.symm.trans channel')
  · rw [not_or] at hi
    rw [jobAt_congr (slot i)] at hj'
    obtain ⟨acquiring, keeps⟩ := h.acquires i hi.1 j' hj'
    refine ⟨acquiring, fun d hd => ?_⟩
    have served := keeps d hd
    have hcd : c ≠ d := by
      rintro rfl
      exact hi.2 (congrArg Handle.slot (Option.some.inj (served.1.symm.trans hg)))
    rw [other d hcd, handleAt_congr (slot i)]
    exact served
  · rw [fifo] at hg'
    obtain ⟨attached, named⟩ := h.queued g' hg'
    exact ⟨not_or.mpr ⟨attached, slot_ne_of_names named here (by rw [state]; decide)⟩, (names _ _).mpr named⟩
  · rw [jobAt_congr (slot i)] at hj'
    rw [handleAt_congr (slot i), fifo]
    exact h.waits i (fun hd => hi (.inl hd)) j' hj'
  · rw [current] at hg'
    obtain ⟨attached, named⟩ := h.current g' hg'
    exact ⟨not_or.mpr ⟨attached, slot_ne_of_names named here (by rw [state]; decide)⟩, (names _ _).mpr named⟩
  · rw [jobAt_congr (slot i)] at hj'
    rw [handleAt_congr (slot i), current]
    exact h.reduces i (fun hd => hi (.inl hd)) j' hj'
  · rw [pages] at hg'
    rw [lookup_congr (slot _)]
    exact h.pages.1 q g' hg'
  · rw [jobAt_congr (slot i)] at hj'
    rw [handleAt_congr (slot i), pages]
    exact h.pages.2 i j' hj'
  · rw [jobAt_congr (slot i)] at hj'
    exact h.fields i j' hj'

/-- An entry that leaves the FIFO detaches its job. -/
theorem JobsBut.detach_fifo {i : SlotNo} {j : Job} (hj : s.jobAt i = some j) (waiting : j.state = .waitReduce) {r : List Handle}
    (rest : ∀ g, g ∈ r ↔ g ∈ s.fifo ∧ g ≠ s.handleAt i) (nodup : r.Nodup) :
    JobsBut (fun m => D m ∨ m = i) { s with fifo := r } := by
  refine ⟨fun c g hg => ?_, fun m hm => h.acquires m fun hd => hm (.inl hd), nodup, fun g hg => ?_, fun m hm j' hj' hs => ?_,
    fun g hg => ?_, fun m hm => h.reduces m fun hd => hm (.inl hd), h.pages, h.fields⟩
  · obtain ⟨attached, j', found, state, channel⟩ := h.serves c g hg
    exact ⟨not_or.mpr ⟨attached, slot_ne_of_names ⟨j', found, state⟩ hj (by rw [waiting]; decide)⟩, j', found, state, channel⟩
  · obtain ⟨member, other⟩ := (rest g).mp hg
    obtain ⟨attached, named⟩ := h.queued g member
    have ⟨_, found, _⟩ := named
    exact ⟨not_or.mpr ⟨attached, fun same => other (same ▸ (handleAt_of_lookup found).symm)⟩, named⟩
  · rw [not_or] at hm
    exact (rest _).mpr ⟨h.waits m hm.1 j' hj' hs, fun same => hm.2 (congrArg Handle.slot same)⟩
  · obtain ⟨attached, named⟩ := h.current g hg
    exact ⟨not_or.mpr ⟨attached, slot_ne_of_names named hj (by rw [waiting]; decide)⟩, named⟩

/-- A reduction that is abandoned, or taken as complete, detaches its job. -/
theorem JobsBut.detach_current {g : Handle} (hg : s.current = some g) : JobsBut (fun m => D m ∨ m = g.slot) { s with current := none } := by
  obtain ⟨-, j, found, reducing⟩ := h.current g hg
  have here := (lookup_eq_some.mp found).2
  refine ⟨fun c g' hg' => ?_, fun m hm => h.acquires m fun hd => hm (.inl hd), h.nodup, fun g' hg' => ?_,
    fun m hm => h.waits m fun hd => hm (.inl hd), nofun, fun m hm j' hj' hs => ?_, h.pages, h.fields⟩
  · obtain ⟨attached, j', found', state, channel⟩ := h.serves c g' hg'
    exact ⟨not_or.mpr ⟨attached, slot_ne_of_names ⟨j', found', state⟩ here (by rw [reducing]; decide)⟩, j', found', state, channel⟩
  · obtain ⟨attached, named⟩ := h.queued g' hg'
    exact ⟨not_or.mpr ⟨attached, slot_ne_of_names named here (by rw [reducing]; decide)⟩, named⟩
  · rw [not_or] at hm
    have only := h.reduces m hm.1 j' hj' hs
    exact absurd (congrArg Handle.slot (Option.some.inj (only.symm.trans hg))) hm.2

/-- A detached slot whose job has ended or left the table, its pages released, agrees again. -/
theorem JobsBut.settle {i : SlotNo} (hi : D i) (other : ∀ m, m ≠ i → t.table[m] = s.table[m])
    (pages : ∀ q : PageNo, t.pages[q] = if s.pages[q] = some (s.handleAt i) then none else s.pages[q]) (chans : t.chans = s.chans)
    (fifo : t.fifo = s.fifo) (current : t.current = s.current)
    (here : ∀ j ∈ t.jobAt i, j.state = .complete ∧ j.channel = none ∧ j.agrees) : JobsBut (fun m => D m ∧ m ≠ i) t := by
  have attached {g : Handle} (hg : ¬ D g.slot) : t.lookup g = s.lookup g := lookup_congr (other _ fun same => hg (same ▸ hi))
  have names {g : Handle} (hg : ¬ D g.slot) (st : JobState) : t.names g st ↔ s.names g st := by rw [State.names, attached hg]
  have still {m : SlotNo} (hm : ¬ (D m ∧ m ≠ i)) (hmi : m ≠ i) : ¬ D m := fun hd => hm ⟨hd, hmi⟩
  refine ⟨fun c g hg => ?_, fun m hm j hj => ?_, fifo ▸ h.nodup, fun g hg => ?_, fun m hm j hj hs => ?_, fun g hg => ?_,
    fun m hm j hj hs => ?_, ⟨fun q g hg => ?_, fun m j hj live q hq => ?_⟩, fun m j hj => ?_⟩
  · rw [chans] at hg
    obtain ⟨hd, found⟩ := h.serves c g hg
    exact ⟨fun hd' => hd hd'.1, (attached hd).symm ▸ found⟩
  · by_cases hmi : m = i
    · subst hmi
      obtain ⟨complete, channel, -⟩ := here j hj
      rw [complete, channel]
      exact ⟨⟨nofun, nofun⟩, nofun⟩
    · rw [jobAt_congr (other m hmi)] at hj
      rw [handleAt_congr (other m hmi), chans]
      exact h.acquires m (still hm hmi) j hj
  · rw [fifo] at hg
    obtain ⟨hd, named⟩ := h.queued g hg
    exact ⟨fun hd' => hd hd'.1, (names hd _).mpr named⟩
  · by_cases hmi : m = i
    · subst hmi
      rw [(here j hj).1] at hs
      cases hs
    · rw [jobAt_congr (other m hmi)] at hj
      rw [handleAt_congr (other m hmi), fifo]
      exact h.waits m (still hm hmi) j hj hs
  · rw [current] at hg
    obtain ⟨hd, named⟩ := h.current g hg
    exact ⟨fun hd' => hd hd'.1, (names hd _).mpr named⟩
  · by_cases hmi : m = i
    · subst hmi
      rw [(here j hj).1] at hs
      cases hs
    · rw [jobAt_congr (other m hmi)] at hj
      rw [handleAt_congr (other m hmi), current]
      exact h.reduces m (still hm hmi) j hj hs
  · rw [pages] at hg
    split at hg
    · cases hg
    · obtain ⟨j, found, live⟩ := h.pages.1 q g hg
      refine ⟨j, (lookup_congr (other _ fun same => ?_)).trans found, live⟩
      subst same
      rw [handleAt_of_lookup found] at *
      exact absurd hg ‹_›
  · by_cases hmi : m = i
    · subst hmi
      exact absurd (here j hj).1 live
    · rw [jobAt_congr (other m hmi)] at hj
      rw [handleAt_congr (other m hmi), pages, h.pages.2 m j hj live q hq, if_neg]
      exact fun same => hmi (congrArg Handle.slot (Option.some.inj same))
  · by_cases hmi : m = i
    · subst hmi
      exact (here j hj).2.2
    · rw [jobAt_congr (other m hmi)] at hj
      exact h.fields m j hj

end

end Sys2Proof.JobProofs
end

section
namespace Sys2Proof.JobProofs

open Sys2Proof Sys2Proof.Machine Sys2Proof.LaneProofs

/-! ### Jobs that are attached -/

/-- From `s` to `t` the job `j` of slot `i`, which nothing refers to, has become `j'`, live and with the same page range, and what its
state asks for refers to it: its channel, the tail of the FIFO, or the Reduction Unit. -/
structure Attaches (s t : State) (i : SlotNo) (j j' : Job) : Prop where
  job : s.jobAt i = some j
  live : j.state ≠ .complete
  slot : t.table[i] = ⟨s.table[i].gen, some j'⟩
  other : ∀ m, m ≠ i → t.table[m] = s.table[m]
  pages : t.pages = s.pages
  range : j'.basePage = j.basePage ∧ j'.n = j.n
  live' : j'.state ≠ .complete
  agrees : j'.agrees
  acquiring : j'.state = .acquiring ↔ j'.channel.isSome
  chan : ∀ d : ChannelNo, j'.channel ≠ some d → t.chans[d] = s.chans[d]
  served : ∀ d : ChannelNo, j'.channel = some d → s.chans[d].job = none ∧ t.chans[d].job = some (s.handleAt i) ∧
    t.chans[d].n = j'.n ∧ t.chans[d].captured = j'.captured
  fifo : t.fifo = if j'.state = .waitReduce then s.fifo ++ [s.handleAt i] else s.fifo
  current : t.current = if j'.state = .reducing then some (s.handleAt i) else s.current
  free : j'.state = .reducing → s.current = none

section

variable {s t : State} {i : SlotNo} {j j' : Job} (a : Attaches s t i j j')

include a

theorem Attaches.handleAt (m : SlotNo) : t.handleAt m = s.handleAt m := by
  by_cases hm : m = i
  · subst hm
    rw [State.handleAt, a.slot, State.handleAt]
  · exact handleAt_congr (a.other m hm)

theorem Attaches.jobAt_self : t.jobAt i = some j' := jobAt_eq a.slot

theorem Attaches.lookup {h : Handle} (hi : h.slot ≠ i) : t.lookup h = s.lookup h := lookup_congr (a.other _ hi)

theorem Attaches.names {h : Handle} (hi : h.slot ≠ i) (st : JobState) : t.names h st ↔ s.names h st := by
  rw [State.names, a.lookup hi]

theorem Attaches.lookup_self : t.lookup (s.handleAt i) = some j' := by
  rw [← a.handleAt, lookup_handleAt, a.jobAt_self]

theorem Attaches.pagesAgree (h : s.pagesAgree) : t.pagesAgree := by
  have same (q : PageNo) : inPageRange j'.basePage (pagesFor j'.n) q = inPageRange j.basePage (pagesFor j.n) q := by
    rw [a.range.1, a.range.2]
  refine ⟨fun q g hg => ?_, fun m k hk live q hq => ?_⟩
  · rw [a.pages] at hg
    obtain ⟨k, found, live, range⟩ := h.1 q g hg
    by_cases hgi : g.slot = i
    · have here : s.jobAt i = some k := hgi ▸ (lookup_eq_some.mp found).2
      cases a.job.symm.trans here
      refine ⟨j', ?_, a.live', (same q).trans range⟩
      rw [← handleAt_of_lookup found, hgi]
      exact a.lookup_self
    · exact ⟨k, (a.lookup hgi).trans found, live, range⟩
  · rw [a.handleAt, a.pages]
    by_cases hm : m = i
    · subst hm
      cases a.jobAt_self.symm.trans hk
      exact h.2 m j a.job a.live q ((same q).symm.trans hq)
    · rw [jobAt_congr (a.other m hm)] at hk
      exact h.2 m k hk live q hq

/-- A detached job that is attached again agrees with what refers to it. -/
theorem Attaches.jobsBut {D : SlotNo → Prop} (h : JobsBut D s) (hi : D i) : JobsBut (fun m => D m ∧ m ≠ i) t := by
  have apart {g : Handle} (hg : ¬ D g.slot) : g.slot ≠ i := fun same => hg (same ▸ hi)
  have still {m : SlotNo} (hm : ¬ (D m ∧ m ≠ i)) (hmi : m ≠ i) : ¬ D m := fun hd => hm ⟨hd, hmi⟩
  have self {g : Handle} (hg : g = s.handleAt i) : ¬ (D g.slot ∧ g.slot ≠ i) := fun hd => hd.2 (congrArg Handle.slot hg)
  refine ⟨fun c g hg => ?_, fun m hm k hk => ?_, ?_, fun g hg => ?_, fun m hm k hk hs => ?_, fun g hg => ?_, fun m hm k hk hs => ?_,
    a.pagesAgree h.pages, fun m k hk => ?_⟩
  · by_cases hc : j'.channel = some c
    · obtain ⟨-, job, -⟩ := a.served c hc
      have hg' := Option.some.inj (hg.symm.trans job)
      exact ⟨self hg', j', hg' ▸ a.lookup_self, a.acquiring.mpr (by rw [hc]; rfl), hc⟩
    · rw [a.chan c hc] at hg
      obtain ⟨hd, found⟩ := h.serves c g hg
      rw [a.lookup (apart hd)]
      exact ⟨fun hd' => hd hd'.1, found⟩
  · by_cases hmi : m = i
    · subst hmi
      cases a.jobAt_self.symm.trans hk
      refine ⟨a.acquiring, fun c hc => ?_⟩
      rw [a.handleAt]
      exact (a.served c hc).2
    · rw [jobAt_congr (a.other m hmi)] at hk
      obtain ⟨acquiring, keeps⟩ := h.acquires m (still hm hmi) k hk
      refine ⟨acquiring, fun c hc => ?_⟩
      rw [a.handleAt, a.chan c fun hc' => ?_]
      · exact keeps c hc
      · cases (a.served c hc').1.symm.trans (keeps c hc).1
  · rw [a.fifo]
    split
    · refine List.nodup_append.mpr ⟨h.nodup, List.nodup_singleton _, fun g hg g' hg' same => ?_⟩
      rw [List.mem_singleton.mp hg'] at same
      exact (h.queued g hg).1 (same ▸ hi)
    · exact h.nodup
  · have cases : g ∈ s.fifo ∨ (g = s.handleAt i ∧ j'.state = .waitReduce) := by
      rw [a.fifo] at hg
      split at hg
      · exact (List.mem_append.mp hg).imp id fun hg => ⟨List.mem_singleton.mp hg, ‹_›⟩
      · exact .inl hg
    rcases cases with hg | ⟨rfl, waiting⟩
    · obtain ⟨hd, named⟩ := h.queued g hg
      exact ⟨fun hd' => hd hd'.1, (a.names (apart hd) _).mpr named⟩
    · exact ⟨self rfl, j', a.lookup_self, waiting⟩
  · rw [a.handleAt, a.fifo]
    by_cases hmi : m = i
    · subst hmi
      cases a.jobAt_self.symm.trans hk
      rw [if_pos hs]
      exact List.mem_append_right _ (List.mem_singleton_self _)
    · rw [jobAt_congr (a.other m hmi)] at hk
      have member := h.waits m (still hm hmi) k hk hs
      split
      · exact List.mem_append_left _ member
      · exact member
  · rw [a.current] at hg
    split at hg
    · cases hg
      exact ⟨self rfl, j', a.lookup_self, ‹_›⟩
    · obtain ⟨hd, named⟩ := h.current g hg
      exact ⟨fun hd' => hd hd'.1, (a.names (apart hd) _).mpr named⟩
  · rw [a.handleAt, a.current]
    by_cases hmi : m = i
    · subst hmi
      cases a.jobAt_self.symm.trans hk
      rw [if_pos hs]
    · rw [jobAt_congr (a.other m hmi)] at hk
      have reduces := h.reduces m (still hm hmi) k hk hs
      rw [if_neg fun reducing => ?_]
      · exact reduces
      · cases (a.free reducing).symm.trans reduces
  · by_cases hmi : m = i
    · subst hmi
      cases a.jobAt_self.symm.trans hk
      exact a.agrees
    · rw [jobAt_congr (a.other m hmi)] at hk
      exact h.fields m k hk

end

/-- With the one detached slot attached again, the jobs agree. -/
theorem Attaches.agreed {s t : State} {i : SlotNo} {j j' : Job} (a : Attaches s t i j j') (h : JobsBut (fun m => nowhere m ∨ m = i) s) :
    JobsBut nowhere t :=
  (a.jobsBut h (.inr rfl)).congr fun _ => ⟨fun hd => hd.2 (hd.1.resolve_left id), False.elim⟩

/-- A new QUEUED job in a free slot, holding a page range that was free, agrees (R46, R97, R98). -/
theorem JobsBut.add {s t : State} (h : JobsBut nowhere s) {i : SlotNo} {j : Job} (free : s.jobAt i = none)
    (slot : t.table[i] = ⟨s.table[i].gen, some j⟩) (other : ∀ m, m ≠ i → t.table[m] = s.table[m])
    (unheld : ∀ q : PageNo, inPageRange j.basePage (pagesFor j.n) q = true → s.pages[q] = none)
    (pages : ∀ q : PageNo, t.pages[q] = if inPageRange j.basePage (pagesFor j.n) q then some (s.handleAt i) else s.pages[q])
    (chans : t.chans = s.chans) (fifo : t.fifo = s.fifo) (current : t.current = s.current) (queued : j.state = .queued)
    (channel : j.channel = none) (agrees : j.agrees) : JobsBut nowhere t := by
  have here : t.jobAt i = some j := jobAt_eq slot
  have handleAt (m : SlotNo) : t.handleAt m = s.handleAt m := by
    by_cases hm : m = i
    · subst hm
      rw [State.handleAt, slot, State.handleAt]
    · exact handleAt_congr (other m hm)
  have lookup {g : Handle} {k : Job} (found : s.lookup g = some k) : t.lookup g = some k := by
    refine (lookup_congr (other _ fun same => ?_)).trans found
    cases (same ▸ free : s.jobAt g.slot = none).symm.trans (lookup_eq_some.mp found).2
  have names {g : Handle} {st : JobState} : s.names g st → t.names g st := fun ⟨k, found, hs⟩ => ⟨k, lookup found, hs⟩
  have old {m : SlotNo} {k : Job} (hk : t.jobAt m = some k) (hs : k.state ≠ .queued) : s.jobAt m = some k := by
    by_cases hm : m = i
    · subst hm
      cases here.symm.trans hk
      exact absurd queued hs
    · rwa [jobAt_congr (other m hm)] at hk
  refine ⟨fun c g hg => ?_, fun m _ k hk => ?_, fifo ▸ h.nodup, fun g hg => ?_, fun m _ k hk hs => ?_, fun g hg => ?_,
    fun m _ k hk hs => ?_, ⟨fun q g hg => ?_, fun m k hk live q hq => ?_⟩, fun m k hk => ?_⟩
  · rw [chans] at hg
    obtain ⟨-, k, found, state⟩ := h.serves c g hg
    exact ⟨id, k, lookup found, state⟩
  · rw [handleAt, chans]
    by_cases hm : m = i
    · subst hm
      cases here.symm.trans hk
      rw [queued, channel]
      exact ⟨⟨nofun, nofun⟩, nofun⟩
    · rw [jobAt_congr (other m hm)] at hk
      exact h.acquires m id k hk
  · rw [fifo] at hg
    exact ⟨id, names (h.queued g hg).2⟩
  · rw [handleAt, fifo]
    exact h.waits m id k (old hk (by rw [hs]; decide)) hs
  · rw [current] at hg
    exact ⟨id, names (h.current g hg).2⟩
  · rw [handleAt, current]
    exact h.reduces m id k (old hk (by rw [hs]; decide)) hs
  · rw [pages] at hg
    split at hg
    · cases hg
      refine ⟨j, ?_, by rw [queued]; decide, ‹_›⟩
      rw [← handleAt, Option.mem_def, lookup_handleAt, here]
    · obtain ⟨k, found, rest⟩ := h.pages.1 q g hg
      exact ⟨k, lookup found, rest⟩
  · rw [handleAt, pages]
    by_cases hm : m = i
    · subst hm
      cases here.symm.trans hk
      rw [if_pos hq]
    · rw [jobAt_congr (other m hm)] at hk
      have holds := h.pages.2 m k hk live q hq
      rw [if_neg fun inRange => ?_]
      · exact holds
      · cases (unheld q inRange).symm.trans holds
  · by_cases hm : m = i
    · subst hm
      cases here.symm.trans hk
      exact agrees
    · rw [jobAt_congr (other m hm)] at hk
      exact h.fields m k hk

end Sys2Proof.JobProofs
end

section
namespace Sys2Proof.JobProofs

open Sys2Proof Sys2Proof.Machine Sys2Proof.LaneProofs

/-! ### The ends of jobs keep the agreement -/

theorem outcome_of_live {j : Job} (h : j.agrees) (live : j.state ≠ .complete) : j.outcome = none ∧ j.verdict = none ∧ j.result = none := by
  obtain ⟨outcome, verdict, result, -⟩ := h
  have noOutcome : j.outcome = none := Option.not_isSome_iff_eq_none.mp fun some => live (outcome.mpr some)
  refine ⟨noOutcome, Option.not_isSome_iff_eq_none.mp fun some => live (verdict.mpr some), ?_⟩
  refine Option.not_isSome_iff_eq_none.mp fun some => ?_
  rw [result, noOutcome] at some
  cases some

/-- A live job that stays live keeps what only COMPLETE sets. -/
theorem agrees_of_live {j j' : Job} (h : j.agrees) (live : j.state ≠ .complete) (live' : j'.state ≠ .complete)
    (fixed : j'.outcome = j.outcome ∧ j'.verdict = j.verdict ∧ j'.result = j.result ∧ j'.n = j.n)
    (queued : j'.state = .queued → j'.captured = 0 ∧ j'.runts = 0) (acquiring : j'.state = .acquiring → j'.captured < j'.n)
    (waiting : j'.state = .waitReduce → j'.captured = j'.n) (reducing : j'.state = .reducing → j'.captured = j'.n) : j'.agrees := by
  obtain ⟨noOutcome, noVerdict, noResult⟩ := outcome_of_live h live
  obtain ⟨outcome, verdict, result, n⟩ := fixed
  rw [noOutcome] at outcome
  rw [noVerdict] at verdict
  rw [noResult] at result
  obtain ⟨-, -, -, long, -⟩ := h
  rw [Job.agrees, outcome, verdict, result]
  exact ⟨⟨fun done => absurd done live', nofun⟩, ⟨fun done => absurd done live', nofun⟩, ⟨nofun, nofun⟩, n ▸ long, queued, acquiring,
    waiting, reducing, nofun⟩

/-- A live job that ends without a result has the fields of COMPLETE (R49). -/
theorem endedAs_agrees {j : Job} (h : j.agrees) (live : j.state ≠ .complete) {o : EndOutcome} (ho : o ≠ .done) (v : Verdict) :
    (endedAs j o v).agrees := by
  obtain ⟨-, -, noResult⟩ := outcome_of_live h live
  obtain ⟨-, -, -, long, -⟩ := h
  refine ⟨⟨fun _ => rfl, fun _ => rfl⟩, ⟨fun _ => rfl, fun _ => rfl⟩, ⟨fun some => ?_, fun done => ?_⟩, long, nofun, nofun, nofun, nofun,
    fun done => ?_⟩
  · rw [show (endedAs j o v).result = j.result from rfl, noResult] at some
    cases some
  · exact absurd (Option.some.inj done) ho
  · exact absurd (Option.some.inj done) ho

/-- A detached job that ends agrees again, whether its record enters or waits. -/
theorem JobsBut.of_ended {s t : State} {D : SlotNo → Prop} (h : JobsBut D s) {i : SlotNo} {done : Job} (hi : D i) (e : ended s t i done)
    (chans : t.chans = s.chans) (fifo : t.fifo = s.fifo) (current : t.current = s.current) (complete : done.state = .complete)
    (channel : done.channel = none) (agrees : done.agrees) : JobsBut (fun m => D m ∧ m ≠ i) t := by
  obtain ⟨pages, other, -, -, enters, waits⟩ := e
  refine h.settle hi other pages chans fifo current fun j hj => ?_
  by_cases admits : s.queues[done.port].admits = true
  · rw [jobAt_eq (enters admits).1] at hj
    cases hj
  · rw [jobAt_eq (waits admits).1] at hj
    cases hj
    exact ⟨complete, channel, agrees⟩

theorem JobsBut.completeJob {s : State} {D : SlotNo → Prop} (h : JobsBut D s) {i : SlotNo} (hi : D i)
    (live : ∀ j ∈ s.jobAt i, j.state ≠ .complete) {o : EndOutcome} (ho : o ≠ .done) (v : Verdict) :
    JobsBut (fun m => D m ∧ m ≠ i) (s.completeJob i o v) := by
  cases hj : s.jobAt i with
  | none =>
    rw [completeJob_of_none hj]
    refine h.settle hi (fun _ _ => rfl) (fun q => ?_) rfl rfl rfl fun j here => ?_
    · rw [if_neg]
      intro held
      obtain ⟨j, found, -⟩ := h.pages.1 q _ held
      cases hj.symm.trans (lookup_eq_some.mp found).2
    · cases hj.symm.trans here
  | some j =>
    exact h.of_ended hi (completeJob_ended hj o v) (by simp) (by simp) (by simp) rfl rfl (endedAs_agrees (h.fields i j hj) (live j hj) ho v)

/-- Detached jobs that end one after another leave none detached. -/
theorem JobsBut.completeAll {o : EndOutcome} (ho : o ≠ .done) {l : List SlotNo} (distinct : l.Nodup) :
    ∀ {s : State}, JobsBut (· ∈ l) s → (∀ i ∈ l, ∀ j ∈ s.jobAt i, j.state ≠ .complete) → JobsBut nowhere (s.completeAll o l) := by
  induction l with
  | nil => exact fun h _ => h.congr fun _ => ⟨fun hi => (by cases hi), False.elim⟩
  | cons i l ih =>
    intro s h live
    obtain ⟨hi, distinct⟩ := List.nodup_cons.mp distinct
    have apart {m : SlotNo} (hm : m ∈ l) : m ≠ i := fun same => hi (same ▸ hm)
    refine ih distinct ((h.completeJob List.mem_cons_self (live i List.mem_cons_self) ho .aborted).congr fun m => ?_) fun m hm j hj => ?_
    · exact ⟨fun hm => (List.mem_cons.mp hm.1).resolve_left hm.2, fun hm => ⟨List.mem_cons_of_mem i hm, apart hm⟩⟩
    · change j ∈ (s.completeJob i o .aborted).jobAt m at hj
      cases here : s.jobAt i with
      | none =>
        rw [completeJob_of_none here] at hj
        exact live m (List.mem_cons_of_mem i hm) j hj
      | some k =>
        have same := ended_jobAt (j := k) (o := o) (completeJob_ended here o .aborted) (apart hm)
        exact live m (List.mem_cons_of_mem i hm) j (same ▸ hj)

/-! ### Withdrawals -/

/-- What is withdrawn is referred to by nothing (R52 to R54, R59). -/
theorem JobsBut.withdraw {s : State} (h : JobsBut nowhere s) {i : SlotNo} {j : Job} (hj : s.jobAt i = some j) :
    JobsBut (fun m => nowhere m ∨ m = i) (s.withdraw i j) := by
  have idle (hs : j.state = .queued ∨ j.state = .complete) : JobsBut (fun m => nowhere m ∨ m = i) s := by
    refine h.detach_idle fun m hm k hk => ?_
    subst hm
    cases hj.symm.trans hk
    exact hs
  cases hs : j.state with
  | queued =>
    rw [State.withdraw, hs]
    exact idle (.inl hs)
  | complete =>
    rw [State.withdraw, hs]
    exact idle (.inr hs)
  | acquiring =>
    obtain ⟨acquiring, keeps⟩ := h.acquires i id j hj
    obtain ⟨c, hc⟩ := Option.isSome_iff_exists.mp (acquiring.mp hs)
    have served := (keeps c hc).1
    rw [State.withdraw, hs, hc]
    dsimp only
    rw [if_pos served]
    refine h.detach_channel (c := c) served ?_ (fun d hd => ?_) (by simp) (by simp) (by simp) (by simp)
    · rw [State.cutChannel, State.setChan_chans_get, if_pos rfl]
      rfl
    · rw [State.cutChannel, State.setChan_chans_get, if_neg hd, disconnect_chans]
  | waitReduce =>
    rw [State.withdraw, hs]
    refine h.detach_fifo hj hs (fun g => ?_) (h.nodup.filter _)
    rw [List.mem_filter, decide_eq_true_iff]
  | reducing =>
    rw [State.withdraw, hs]
    dsimp only
    rw [if_pos (h.reduces i id j hj hs)]
    exact h.detach_current (h.reduces i id j hj hs)

theorem nowhere_of_alone {s : State} {i : SlotNo} (h : JobsBut (fun m => (nowhere m ∨ m = i) ∧ m ≠ i) s) : JobsBut nowhere s :=
  h.congr fun _ => ⟨fun hd => hd.2 (hd.1.resolve_left id), False.elim⟩

/-- A job that leaves the table with its pages released, nothing referring to it, leaves the others agreeing. -/
theorem JobsBut.retire {s : State} {i : SlotNo} (h : JobsBut (fun m => nowhere m ∨ m = i) s) (j : Job) :
    JobsBut nowhere ((s.releasePages (s.handleAt i)).retire i j) := by
  have freed := releasePages_pages s (s.handleAt i)
  obtain ⟨pages, released⟩ := releasePages_frame s (s.handleAt i)
  rw [released] at freed ⊢
  have slot (m : SlotNo) := retire_table { s with pages := pages } i m j
  obtain ⟨_, _, _, frame⟩ := State.retire_frame { s with pages := pages } i j
  rw [frame] at slot ⊢
  refine nowhere_of_alone (i := i) (h.settle (.inr rfl) (fun m hm => ?_) freed rfl rfl rfl fun k hk => ?_)
  · rw [slot, if_neg (Ne.symm hm)]
  · rw [jobAt_eq (slot i), if_pos rfl] at hk
    cases hk

theorem JobsBut.discard {s : State} (h : JobsBut nowhere s) (i : SlotNo) : JobsBut nowhere (s.discard i) := by
  cases hj : s.jobAt i with
  | none => rwa [discard_of_none hj]
  | some j =>
    have handle : (s.withdraw i j).handleAt i = s.handleAt i := by
      obtain ⟨_, _, _, _, _, frame⟩ := s.withdraw_frame i j
      rw [frame]
      rfl
    rw [discard_of_some hj, ← handle]
    exact (h.withdraw hj).retire j

theorem JobsBut.discardAll (l : List SlotNo) {s : State} (h : JobsBut nowhere s) : JobsBut nowhere (l.foldl State.discard s) := by
  induction l generalizing s with
  | nil => exact h
  | cons i l ih => exact ih (h.discard i)

/-! ### The Reduction Unit goes on (R112) -/

theorem modifyJob_slot {s : State} {i : SlotNo} {j : Job} (hj : s.jobAt i = some j) (f : Job → Job) :
    (s.modifyJob i f).table[i] = ⟨s.table[i].gen, some (f j)⟩ := by
  rw [modifyJob_of_some hj, setJob_table, if_pos rfl]

theorem modifyJob_other (s : State) {i m : SlotNo} (f : Job → Job) (hm : m ≠ i) : (s.modifyJob i f).table[m] = s.table[m] := by
  unfold State.modifyJob
  split
  · rw [setJob_table, if_neg (Ne.symm hm)]
  · rfl

/-- Whatever the unit was doing, after it has taken the head of the FIFO the jobs agree. -/
theorem JobsBut.takeHead {s : State} (h : JobsBut nowhere s) : s.takeHead.jobsAgree := by
  cases hc : s.current with
  | some g =>
    rw [takeHead_of_busy hc]
    exact (jobsAgree_iff s).mpr ⟨h, fun none => by rw [hc] at none; cases none⟩
  | none =>
    cases hf : s.fifo with
    | nil =>
      rw [State.takeHead, hc, hf]
      exact (jobsAgree_iff s).mpr ⟨h, fun _ => hf⟩
    | cons g r =>
      have distinct := h.nodup
      rw [hf] at distinct
      obtain ⟨apart, distinct⟩ := List.nodup_cons.mp distinct
      obtain ⟨-, j, found, waiting⟩ := h.queued g (by rw [hf]; exact List.mem_cons_self)
      have here := (lookup_eq_some.mp found).2
      have handle := handleAt_of_lookup found
      have popped : JobsBut (fun m => nowhere m ∨ m = g.slot) { s with fifo := r } := by
        refine h.detach_fifo here waiting (fun g' => ?_) distinct
        rw [hf, handle, List.mem_cons]
        constructor
        · exact fun member => ⟨.inr member, fun same => apart (same ▸ member)⟩
        · exact fun member => member.1.resolve_left member.2
      rw [takeHead_of_idle hc hf]
      obtain ⟨_, frame⟩ := State.modifyJob_frame ({ s with fifo := r, current := some g } : State) g.slot fun j => { j with state := .reducing }
      have slot := modifyJob_slot (s := { s with fifo := r, current := some g }) here fun j => { j with state := .reducing }
      have others (m : SlotNo) (hm : m ≠ g.slot) :=
        modifyJob_other { s with fifo := r, current := some g } (fun j => { j with state := .reducing }) hm
      obtain ⟨-, -, -, -, -, -, full, -⟩ := h.fields _ j here
      have channel : j.channel = none := Option.not_isSome_iff_eq_none.mp fun some => by
        have acquiring := (h.acquires _ id j here).1.mpr some
        rw [waiting] at acquiring
        cases acquiring
      rw [frame] at slot others ⊢
      refine (jobsAgree_iff _).mpr ⟨Attaches.agreed (s := { s with fifo := r }) (j := j) (j' := { j with state := .reducing })
        { job := here
          live := by rw [waiting]; decide
          slot := slot
          other := others
          pages := rfl
          range := ⟨rfl, rfl⟩
          live' := nofun
          agrees := agrees_of_live (h.fields _ j here) (by rw [waiting]; nofun) nofun ⟨rfl, rfl, rfl, rfl⟩ nofun nofun nofun fun _ => full waiting
          acquiring := ⟨nofun, fun some => by rw [channel] at some; cases some⟩
          chan := fun _ _ => rfl
          served := fun d hd => by rw [show _ = _ from hd] at channel; cases channel
          fifo := (if_neg nofun).symm
          current := ((if_pos rfl).trans (congrArg some handle)).symm
          free := fun _ => hc } popped, nofun⟩

end Sys2Proof.JobProofs
end

section
namespace Sys2Proof.JobProofs

open Sys2Proof Sys2Proof.Machine Sys2Proof.LaneProofs

/-! ### Grants, timestamps and ends of acquisitions keep the agreement -/

/-- The job that an ACQUIRING channel serves. -/
theorem JobsBut.served {s : State} {D : SlotNo → Prop} (h : JobsBut D s) {c : ChannelNo} {g : Handle} (hg : s.chans[c].job = some g) :
    ∃ j, s.jobAt g.slot = some j ∧ j.state = .acquiring ∧ j.channel = some c ∧ s.handleAt g.slot = g ∧ s.chans[c].n = j.n ∧
      s.chans[c].captured = j.captured := by
  obtain ⟨attached, j, found, state, channel⟩ := h.serves c g hg
  have here := (lookup_eq_some.mp found).2
  exact ⟨j, here, state, channel, handleAt_of_lookup found, ((h.acquires g.slot attached j here).2 c channel).2⟩

theorem JobsBut.grant {s : State} {c : ChannelNo} {i : SlotNo} {j : Job} (h : JobsBut nowhere s) (served : Served s)
    (free : s.freeChannel = some c) (next : s.nextJob = some (i, j)) : JobsBut nowhere (s.grant c i j) := by
  obtain ⟨-, idle⟩ := mem_freeChannel free
  obtain ⟨here, eligible⟩ := nextJob_eligible next
  have queued := (eligible_iff.mp eligible).1
  have unserved : s.chans[c].job = none := by
    by_contra job
    rw [served c job] at idle
    cases idle
  have agrees := h.fields i j here
  obtain ⟨-, -, -, long, fresh, -⟩ := agrees
  refine Attaches.agreed (j := j) (j' := { j with state := .acquiring, channel := some c })
    { job := here
      live := by rw [queued]; nofun
      slot := (grant_table s c i j i).trans (if_pos rfl)
      other := fun m hm => (grant_table s c i j m).trans (if_neg (Ne.symm hm))
      pages := rfl
      range := ⟨rfl, rfl⟩
      live' := nofun
      agrees := agrees_of_live (h.fields i j here) (by rw [queued]; nofun) nofun ⟨rfl, rfl, rfl, rfl⟩ nofun (fun _ => ?_) nofun nofun
      acquiring := ⟨fun _ => rfl, fun _ => rfl⟩
      chan := fun d hd => (grant_chans s c i j d).trans (if_neg fun same => hd (congrArg some same))
      served := fun d hd => ?_
      fifo := (if_neg nofun).symm
      current := (if_neg nofun).symm
      free := nofun } (h.detach_idle fun m hm k hk => ?_)
  · change j.captured < j.n
    rw [(fresh queued).1]
    exact Nat.lt_of_lt_of_le (by decide) long
  · cases hd
    rw [grant_chans, if_pos rfl]
    exact ⟨unserved, rfl, rfl, (fresh queued).1.symm⟩
  · subst hm
    cases here.symm.trans hk
    exact .inl queued

/-- A channel that stops detaches the job it served, if any. -/
theorem JobsBut.stopChannel {s : State} {D : SlotNo → Prop} (h : JobsBut D s) (c : ChannelNo) :
    JobsBut (fun m => D m ∨ ∃ g, s.chans[c].job = some g ∧ g.slot = m) (s.stopChannel c) := by
  have chans := stopChannel_chans s c
  obtain ⟨_, _, _, frame⟩ := s.stopChannel_frame c
  rw [frame] at chans ⊢
  cases hc : s.chans[c].job with
  | none =>
    refine (h.of_same (by rfl) (by rfl) (by rfl) (by rfl) fun d => ?_).congr fun m => ⟨.inl, fun hm => hm.resolve_right nofun⟩
    rw [chans]
    split
    · subst d
      exact ⟨hc.symm, rfl, rfl⟩
    · exact ⟨rfl, rfl, rfl⟩
  | some g =>
    refine JobsBut.congr (D := fun m => D m ∨ m = g.slot) (h.detach_channel hc ?_ (fun d hd => ?_) rfl rfl rfl rfl) fun m =>
      or_congr_right ⟨fun hm => ⟨g, rfl, hm.symm⟩, ?_⟩
    · rw [chans, if_pos rfl]
      rfl
    · rw [chans, if_neg hd]
    · rintro ⟨g', same, rfl⟩
      rw [Option.some.inj same]

/-- The job that an ACQUIRING channel serves may be rewritten with its channel. -/
theorem jobsAgree_of_served {s t : State} (h : s.jobsAgree) {c : ChannelNo} {g : Handle} {j j' : Job} (hg : s.chans[c].job = some g)
    (here : s.jobAt g.slot = some j) (slot : t.table[g.slot] = ⟨s.table[g.slot].gen, some j'⟩)
    (other : ∀ m, m ≠ g.slot → t.table[m] = s.table[m]) (range : j'.basePage = j.basePage ∧ j'.n = j.n) (state : j'.state = .acquiring)
    (channel : j'.channel = some c) (agrees : j'.agrees) (chan : ∀ d, c ≠ d → t.chans[d] = s.chans[d])
    (serves : t.chans[c].job = some g ∧ t.chans[c].n = j'.n ∧ t.chans[c].captured = j'.captured) (pages : t.pages = s.pages)
    (fifo : t.fifo = s.fifo) (current : t.current = s.current) : t.jobsAgree := by
  rw [jobsAgree_iff] at h ⊢
  obtain ⟨h, idle⟩ := h
  obtain ⟨j₀, here₀, acquiring, -, handle, -⟩ := h.served hg
  cases here.symm.trans here₀
  let u := s.setChan c { s.chans[c] with job := none }
  have unserved : u.chans[c].job = none := by rw [State.setChan_chans_get, if_pos rfl]
  have others (d : ChannelNo) (hd : c ≠ d) : u.chans[d] = s.chans[d] := by rw [State.setChan_chans_get, if_neg hd]
  have detached : JobsBut (fun m => nowhere m ∨ m = g.slot) u := h.detach_channel hg unserved others rfl rfl rfl rfl
  refine ⟨Attaches.agreed (s := u) (j := j) (j' := j')
    { job := here
      live := by rw [acquiring]; nofun
      slot := slot
      other := other
      pages := pages
      range := range
      live' := by rw [state]; nofun
      agrees := agrees
      acquiring := by rw [state, channel]; exact ⟨fun _ => rfl, fun _ => rfl⟩
      chan := fun d hd => ?_
      served := fun d hd => ?_
      fifo := by rw [state, if_neg nofun]; exact fifo
      current := by rw [state, if_neg nofun]; exact current
      free := by rw [state]; nofun } detached, ?_⟩
  · have hcd : c ≠ d := fun same => hd (same ▸ channel)
    rw [chan d hcd, others d hcd]
  · cases channel.symm.trans hd
    exact ⟨unserved, serves.1.trans (congrArg some handle.symm), serves.2⟩
  · rw [fifo, current]
    exact idle

theorem writeTimestamp_jobsAgree {s : State} (h : s.jobsAgree) {c : ChannelNo} {g : Handle} (t : Timestamp)
    (hg : s.chans[c].job = some g) (more : s.chans[c].captured + 1 < s.chans[c].n) : (s.writeTimestamp c g t).jobsAgree := by
  obtain ⟨j, here, acquiring, channel, -, length, -⟩ := ((jobsAgree_iff s).mp h).1.served hg
  rw [writeTimestamp_eq here]
  refine jobsAgree_of_served h (j' := { j with captured := s.chans[c].captured + 1 }) hg here ?_ (fun m hm => ?_) ⟨rfl, rfl⟩ acquiring channel ?_
    (fun d hd => ?_) ?_ rfl rfl rfl
  · rw [setJob_table, if_pos rfl]
    rfl
  · rw [setJob_table, if_neg (Ne.symm hm)]
    rfl
  · have live : j.state ≠ .complete := by rw [acquiring]; nofun
    obtain ⟨-, -, -, fields⟩ := h
    refine agrees_of_live (fields _ j here) live live ⟨rfl, rfl, rfl, rfl⟩ ?_ (fun _ => length ▸ more) ?_ ?_
    all_goals
      change j.state = _ → _
      rw [acquiring]
      nofun
  · exact (State.setChan_chans_get _ c _ d).trans (if_neg hd)
  · rw [show (State.setJob _ _ _).chans[c] = s.chans[c].stamped t from (State.setChan_chans_get _ c _ c).trans (if_pos rfl)]
    exact ⟨hg, length, rfl⟩

theorem runt_jobsAgree {s : State} (h : s.jobsAgree) {c : ChannelNo} {g : Handle} (hg : s.chans[c].job = some g) :
    (s.modifyJob g.slot fun j => { j with runts := min Config.countLimit (j.runts + 1) }).jobsAgree := by
  obtain ⟨j, here, acquiring, channel, -, serves⟩ := ((jobsAgree_iff s).mp h).1.served hg
  rw [modifyJob_of_some here]
  refine jobsAgree_of_served h (j' := { j with runts := min Config.countLimit (j.runts + 1) }) hg here ?_ (fun m hm => ?_) ⟨rfl, rfl⟩
    acquiring channel ?_ (fun _ _ => rfl) ⟨hg, serves⟩ rfl rfl rfl
  · rw [setJob_table, if_pos rfl]
  · rw [setJob_table, if_neg (Ne.symm hm)]
  · have live : j.state ≠ .complete := by rw [acquiring]; nofun
    obtain ⟨-, -, -, fields⟩ := h
    obtain ⟨-, -, -, -, -, more, -⟩ := fields _ j here
    refine agrees_of_live (fields _ j here) live live ⟨rfl, rfl, rfl, rfl⟩ ?_ more ?_ ?_
    all_goals
      change j.state = _ → _
      rw [acquiring]
      nofun

end Sys2Proof.JobProofs
end

section
namespace Sys2Proof.JobProofs

open Sys2Proof Sys2Proof.Machine Sys2Proof.LaneProofs

/-! ### Every operation on jobs keeps the agreement -/

theorem jobsAgree_of_sameUnit {s t : State} (h : JobsBut nowhere t) (idle : s.current = none → s.fifo = []) (fifo : t.fifo = s.fifo)
    (current : t.current = s.current) : t.jobsAgree := by
  refine (jobsAgree_iff t).mpr ⟨h, ?_⟩
  rw [fifo, current]
  exact idle

theorem expiry_jobsAgree {s : State} (h : s.jobsAgree) {c : ChannelNo} {g : Handle} (hg : s.chans[c].job = some g) :
    ((s.stopChannel c).completeJob g.slot .noEdges .aborted).jobsAgree := by
  obtain ⟨h, idle⟩ := (jobsAgree_iff s).mp h
  obtain ⟨j, here, acquiring, -⟩ := h.served hg
  have detached : JobsBut (fun m => nowhere m ∨ m = g.slot) (s.stopChannel c) := by
    refine (h.stopChannel c).congr fun m => or_congr_right ⟨?_, fun hm => ⟨g, hg, hm.symm⟩⟩
    rintro ⟨g', hg', rfl⟩
    cases hg.symm.trans hg'
    rfl
  obtain ⟨_, _, _, frame⟩ := s.stopChannel_frame c
  rw [frame] at detached ⊢
  refine jobsAgree_of_sameUnit (nowhere_of_alone (detached.completeJob (.inr rfl) (fun k hk => ?_) (by decide) .aborted)) idle (by simp) (by simp)
  cases here.symm.trans hk
  rw [acquiring]
  nofun

/-- Before the Reduction Unit goes on, the job of a channel that has stopped waits at the FIFO's tail (R87). -/
theorem handsOver_eq {s : State} {c : ChannelNo} {g : Handle} {j : Job} (hj : (s.stopChannel c).jobAt g.slot = some j) :
    handsOver s c g = (waits (s.stopChannel c) g j).takeHead := by
  rw [handsOver, modifyJob_of_some hj]
  rfl

theorem lastTimestamp_jobsAgree {s : State} (h : s.jobsAgree) {c : ChannelNo} {g : Handle} (t : Timestamp)
    (hg : s.chans[c].job = some g) (last : s.chans[c].n ≤ s.chans[c].captured + 1) :
    (handsOver (s.writeTimestamp c g t) c g).jobsAgree := by
  obtain ⟨h, -⟩ := (jobsAgree_iff s).mp h
  obtain ⟨j, here, acquiring, channel, handle, length, captured⟩ := h.served hg
  have agrees := h.fields _ j here
  have live : j.state ≠ .complete := by rw [acquiring]; nofun
  have count : s.chans[c].captured + 1 = j.n := by
    obtain ⟨-, -, -, -, -, more, -⟩ := agrees
    have := more acquiring
    omega
  let j₁ : Job := { j with captured := s.chans[c].captured + 1 }
  let j₂ : Job := { j₁ with state := .waitReduce, channel := none }
  let w := { s with mem := s.mem.write (s.chans[c].baseWord + s.chans[c].captured) t }.setChan c (s.chans[c].stamped t)
  have stopped := stopChannel_chans (w.setJob g.slot j₁) c
  obtain ⟨lanes, xpoint, chans, frame⟩ := (w.setJob g.slot j₁).stopChannel_frame c
  have other (m : SlotNo) (hm : m ≠ g.slot) : (w.setJob g.slot j₁).table[m] = s.table[m] :=
    (setJob_table w g.slot m j₁).trans (if_neg (Ne.symm hm))
  have slot : (w.setJob g.slot j₁).table[g.slot] = ⟨s.table[g.slot].gen, some j₁⟩ := (setJob_table w g.slot g.slot j₁).trans (if_pos rfl)
  have gen : (w.setJob g.slot j₁).table[g.slot].gen = s.table[g.slot].gen := by rw [slot]
  have waiting : handsOver (w.setJob g.slot j₁) c g = (waits ((w.setJob g.slot j₁).stopChannel c) g j₁).takeHead := by
    refine handsOver_eq ?_
    rw [frame]
    exact jobAt_eq slot
  rw [frame] at stopped
  rw [writeTimestamp_eq here, waiting, frame]
  -- the state before the hand-over: the channel stopped, the job as it was
  let u : State := { w with lanes := lanes, xpoint := xpoint, chans := chans }
  have detached : JobsBut (fun m => nowhere m ∨ m = g.slot) u := by
    refine h.detach_channel hg ?_ (fun d hd => ?_) rfl rfl rfl rfl
    · exact (congrArg Channel.job (stopped c)).trans (by rw [if_pos rfl]; rfl)
    · exact (stopped d).trans ((if_neg hd).trans ((State.setChan_chans_get _ c _ d).trans (if_neg hd)))
  refine JobsBut.takeHead (Attaches.agreed (s := u) (j := j) (j' := j₂)
    { job := here
      live := live
      slot := ?_
      other := fun m hm => ?_
      pages := rfl
      range := ⟨rfl, rfl⟩
      live' := nofun
      agrees := agrees_of_live agrees live nofun ⟨rfl, rfl, rfl, rfl⟩ nofun nofun (fun _ => count) nofun
      acquiring := ⟨nofun, nofun⟩
      chan := fun _ _ => rfl
      served := nofun
      fifo := (congrArg (s.fifo ++ [·]) handle.symm).trans (if_pos rfl).symm
      current := (if_neg nofun).symm
      free := nofun } detached)
  · refine (setJob_table _ _ _ _).trans ((if_pos rfl).trans ?_)
    exact congrArg (fun n => (⟨n, some j₂⟩ : Slot)) gen
  · exact (setJob_table _ _ _ _).trans ((if_neg (Ne.symm hm)).trans (other m hm))

/-! #### Jobs that end together -/

/-- The jobs that channels serve are detached when those channels stop. -/
theorem JobsBut.stopAll (l : List ChannelNo) {s : State} {D : SlotNo → Prop} (h : JobsBut D s) :
    JobsBut (fun m => D m ∨ ∃ c ∈ l, ∃ g, s.chans[c].job = some g ∧ g.slot = m) (l.foldl State.stopChannel s) := by
  induction l generalizing s D with
  | nil => exact h.congr fun m => ⟨.inl, fun hm => hm.resolve_right (by simp)⟩
  | cons d l ih =>
    refine (ih (h.stopChannel d)).congr fun m => ?_
    have job (c : ChannelNo) : (s.stopChannel d).chans[c].job = if d = c then none else s.chans[c].job := by
      rw [stopChannel_chans]
      split <;> rfl
    rw [or_assoc]
    refine or_congr_right ⟨?_, ?_⟩
    · rintro (⟨g, hg, rfl⟩ | ⟨c, hc, g, hg, rfl⟩)
      · exact ⟨d, List.mem_cons_self, g, hg, rfl⟩
      · rw [job] at hg
        split at hg
        · cases hg
        · exact ⟨c, List.mem_cons_of_mem d hc, g, hg, rfl⟩
    · rintro ⟨c, hc, g, hg, rfl⟩
      by_cases same : d = c
      · subst same
        exact .inl ⟨g, hg, rfl⟩
      · refine .inr ⟨c, (List.mem_cons.mp hc).resolve_left (Ne.symm same), g, ?_, rfl⟩
        rw [job, if_neg same]
        exact hg

theorem endAcquisitions_jobsAgree {s : State} (h : s.jobsAgree) : s.endAcquisitions.jobsAgree := by
  obtain ⟨h, idle⟩ := (jobsAgree_iff s).mp h
  have serving (m : SlotNo) : (∃ c ∈ s.acquiringChannels, ∃ g, s.chans[c].job = some g ∧ g.slot = m) ↔ m ∈ s.acquiringJobs := by
    rw [State.acquiringJobs, mem_oldestFirst]
    constructor
    · rintro ⟨c, hc, g, hg, rfl⟩
      obtain ⟨j, here, -, -, handle, -⟩ := h.served hg
      refine ⟨j, here, List.any_eq_true.mpr ⟨c, hc, decide_eq_true ?_⟩⟩
      rw [handle]
      exact hg
    · rintro ⟨j, -, any⟩
      obtain ⟨c, hc, job⟩ := List.any_eq_true.mp any
      exact ⟨c, hc, _, of_decide_eq_true job, rfl⟩
  have detached : JobsBut (· ∈ s.acquiringJobs) (s.acquiringChannels.foldl State.stopChannel s) := by
    refine (h.stopAll s.acquiringChannels).congr fun m => ?_
    rw [serving]
    exact ⟨fun hm => hm.resolve_left id, .inr⟩
  obtain ⟨lanes, xpoint, chans, stops⟩ := stopAll_frame s.acquiringChannels s
  rw [State.endAcquisitions]
  rw [stops] at detached ⊢
  obtain ⟨_, _, _, _, _, ends⟩ := State.completeAll_frame .refLost s.acquiringJobs { s with lanes := lanes, xpoint := xpoint, chans := chans }
  refine jobsAgree_of_sameUnit (detached.completeAll (by decide) (oldestFirst_nodup s _) fun m hm j hj => ?_) idle (by rw [ends]) (by rw [ends])
  obtain ⟨c, -, g, hg, rfl⟩ := (serving m).mpr hm
  obtain ⟨j', here, acquiring, -⟩ := h.served hg
  cases here.symm.trans hj
  rw [acquiring]
  nofun

theorem endQueuedOn_jobsAgree {s : State} (h : s.jobsAgree) (k : LaneNo) : (s.endQueuedOn k).jobsAgree := by
  obtain ⟨h, idle⟩ := (jobsAgree_iff s).mp h
  have queued : ∀ i ∈ s.oldestFirst fun _ j => decide (j.state = .queued) && decide (j.lane = k), ∀ j ∈ s.jobAt i, j.state = .queued := by
    intro i hi j hj
    obtain ⟨j', hj', sel⟩ := (mem_oldestFirst s _).mp hi
    cases hj.symm.trans hj'
    exact of_decide_eq_true (Bool.and_eq_true_iff.mp sel).1
  have detached := h.detach_idle (E := (· ∈ s.oldestFirst fun _ j => decide (j.state = .queued) && decide (j.lane = k)))
    fun i hi j hj => .inl (queued i hi j hj)
  obtain ⟨_, _, _, _, _, ends⟩ := s.endQueuedOn_frame k
  refine jobsAgree_of_sameUnit ((detached.congr fun m => ⟨fun hm => hm.resolve_left id, .inr⟩).completeAll (by decide) (oldestFirst_nodup s _)
    fun i hi j hj => ?_) idle (by rw [ends]) (by rw [ends])
  rw [queued i hi j hj]
  nofun

/-! #### Jobs that come and go -/

theorem retire_jobsAgree {s : State} (h : s.jobsAgree) {g : Handle} {j : Job} (found : s.lookup g = some j) (complete : j.state = .complete) :
    (s.retire g.slot j).jobsAgree := by
  obtain ⟨h, idle⟩ := (jobsAgree_iff s).mp h
  have here := (lookup_eq_some.mp found).2
  have detached : JobsBut (fun m => nowhere m ∨ m = g.slot) s := by
    refine h.detach_idle fun m hm k hk => ?_
    subst hm
    cases here.symm.trans hk
    exact .inr complete
  have slot (m : SlotNo) := retire_table s g.slot m j
  obtain ⟨_, _, _, frame⟩ := s.retire_frame g.slot j
  rw [frame] at slot ⊢
  refine jobsAgree_of_sameUnit (nowhere_of_alone (i := g.slot) (detached.settle (.inr rfl) (fun m hm => ?_) (fun q => ?_) rfl rfl rfl
    fun k hk => ?_)) idle rfl rfl
  · rw [slot, if_neg (Ne.symm hm)]
  · refine (if_neg fun held => ?_).symm
    obtain ⟨k, named, live, -⟩ := h.pages.1 q _ held
    cases here.symm.trans (lookup_eq_some.mp named).2
    exact live complete
  · rw [jobAt_eq (slot g.slot), if_pos rfl] at hk
    cases hk

/-- The job that an acceptance makes is QUEUED in a free slot, on pages that nobody held. -/
theorem accept_jobsAgree {s : State} (h : s.jobsAgree) {p : PortNo} {f : SubmitFields} {a : Admission} (admits : Admits s p f a) :
    (s.accept p a.slot (s.newJob p f a)).jobsAgree := by
  obtain ⟨h, idle⟩ := (jobsAgree_iff s).mp h
  obtain ⟨table, -, -, pages, chans, fifo, current⟩ := accept_eq s p a.slot (s.newJob p f a)
  have recipe := admits.recipe
  rw [SubmitFields.recipeOk] at recipe
  refine jobsAgree_of_sameUnit (h.add (j := s.newJob p f a) (freeSlot_jobAt admits.slot) ?_ (fun m hm => ?_) (fun q hq => ?_) (fun q => ?_)
    chans fifo current rfl rfl ?_) idle fifo current
  · rw [table, getElem_set_fin, if_pos rfl]
  · rw [table, getElem_set_fin, if_neg (Ne.symm hm)]
  · by_contra held
    have any := List.any_eq_false.mp admits.pages q (List.mem_finRange q)
    rw [show inPageRange s.windows[p][a.window].base (pagesFor f.n) q = true from hq, Bool.true_and] at any
    exact any (Option.isSome_iff_ne_none.mpr held)
  · rw [pages]
    exact getElem_ofFn_fin _ q
  · have long : 8 ≤ f.n := by simp_all
    exact ⟨⟨nofun, nofun⟩, ⟨nofun, nofun⟩, ⟨nofun, nofun⟩, long, fun _ => ⟨rfl, rfl⟩, nofun, nofun, nofun, nofun⟩

/-- A withdrawal that is not of the reduction in progress keeps what the unit does, and an empty FIFO empty. -/
theorem withdraw_unit {s : State} {i : SlotNo} {j : Job} (hs : j.state ≠ .reducing) :
    (s.withdraw i j).current = s.current ∧ (s.fifo = [] → (s.withdraw i j).fifo = []) := by
  unfold State.withdraw
  split
  · exact ⟨rfl, id⟩
  · exact ⟨rfl, id⟩
  · split
    · split
      · exact ⟨by simp, fun empty => by simpa using empty⟩
      · exact ⟨rfl, id⟩
    · exact ⟨rfl, id⟩
  · exact ⟨rfl, fun empty => by rw [empty]; rfl⟩
  · exact absurd ‹_› hs

theorem cancel_jobsAgree {s : State} (h : s.jobsAgree) {g : Handle} {j : Job} (found : s.lookup g = some j) (running : j.state ≠ .reducing)
    (live : j.state ≠ .complete) : ((s.withdraw g.slot j).completeJob g.slot .cancelled .aborted).jobsAgree := by
  obtain ⟨h, idle⟩ := (jobsAgree_iff s).mp h
  have here := (lookup_eq_some.mp found).2
  obtain ⟨current, fifo⟩ := withdraw_unit (s := s) (i := g.slot) running
  refine (jobsAgree_iff _).mpr ⟨nowhere_of_alone ((h.withdraw here).completeJob (.inr rfl) (fun k hk => ?_) (by decide) .aborted), fun free => ?_⟩
  · rw [withdraw_jobAt] at hk
    cases here.symm.trans hk
    exact live
  · rw [State.completeJob_current, current] at free
    rw [State.completeJob_fifo]
    exact fifo (idle free)

theorem cleared_jobsAgree {s : State} (h : s.jobsAgree) (p : PortNo) : (cleared s p).jobsAgree := by
  have discarded := ((jobsAgree_iff s).mp h).1.discardAll (s.oldestFirst fun _ j => decide (j.port = p))
  exact JobsBut.takeHead (discarded.of_same (t := State.emptyQueue _ p) rfl rfl rfl rfl fun _ => ⟨rfl, rfl, rfl⟩)

/-! #### The completion of a reduction -/

theorem completeReduction_jobsAgree {s : State} (h : s.jobsAgree) {g : Handle} {j : Job} (reducing : s.current = some g)
    (found : s.lookup g = some j) : (s.completeReduction g.slot j).jobsAgree := by
  obtain ⟨h, -⟩ := (jobsAgree_iff s).mp h
  have here := (lookup_eq_some.mp found).2
  let r := reduce (s.capture j) j.dEffective j.pnom j.bands
  let v := s.binOf j.limitSet j.runts r
  let done := endedAs (j.reduced r) .done v
  let u := (s.setJob g.slot (j.reduced r)).completeJob g.slot .done v
  have state : j.state = .reducing := by
    obtain ⟨-, k, named, state⟩ := h.current g reducing
    cases found.symm.trans named
    exact state
  have agrees : done.agrees := by
    obtain ⟨-, -, -, long, -, -, -, captured, -⟩ := h.fields _ j here
    exact ⟨⟨fun _ => rfl, fun _ => rfl⟩, ⟨fun _ => rfl, fun _ => rfl⟩, ⟨fun _ => rfl, fun _ => rfl⟩, long, nofun, nofun, nofun, nofun,
      fun _ => captured state⟩
  obtain ⟨pages, others, -, -, enters, waits⟩ := completeJob_ended (setJob_jobAt s g.slot (j.reduced r)) .done v
  have before (m : SlotNo) := setJob_table s g.slot m (j.reduced r)
  have handle : (s.setJob g.slot (j.reduced r)).handleAt g.slot = s.handleAt g.slot := by
    rw [State.handleAt, before, if_pos rfl]
    rfl
  have settled : JobsBut (fun m => (nowhere m ∨ m = g.slot) ∧ m ≠ g.slot) { u with current := none } := by
    refine (h.detach_current reducing).settle (.inr rfl) (fun m hm => ?_) (fun q => ?_) ?_ ?_ rfl fun k hk => ?_
    · exact (others m hm).trans ((before m).trans (if_neg (Ne.symm hm)))
    · rw [handle] at pages
      exact pages q
    · exact State.completeJob_chans ..
    · exact State.completeJob_fifo ..
    · by_cases admits : (s.setJob g.slot (j.reduced r)).queues[done.port].admits = true
      · have gone : u.jobAt g.slot = none := jobAt_eq (enters admits).1
        cases gone.symm.trans hk
      · have stays : u.jobAt g.slot = some done := jobAt_eq (waits admits).1
        cases stays.symm.trans hk
        exact ⟨rfl, rfl, agrees⟩
  exact (nowhere_of_alone settled).takeHead

theorem poweredOn_jobsAgree (s : State) : s.poweredOn.jobsAgree := by
  have nobody {i : SlotNo} {j : Job} (hj : j ∈ s.poweredOn.jobAt i) : False := by
    rw [poweredOn_jobAt] at hj
    cases hj
  refine (jobsAgree_iff _).mpr ⟨⟨fun c g hg => ?_, fun _ _ _ hj => (nobody hj).elim, .nil, nofun, fun _ _ _ hj => (nobody hj).elim, nofun,
    fun _ _ _ hj => (nobody hj).elim, ⟨fun q g hg => ?_, fun _ _ hj => (nobody hj).elim⟩, fun _ _ hj => (nobody hj).elim⟩, fun _ => rfl⟩
  · rw [poweredOn_chans] at hg
    cases hg
  · have free : s.poweredOn.pages[q] = none := Vector.getElem_replicate q.isLt
    cases free.symm.trans hg

/-- The operations on jobs keep their agreement with channels, Reduction Unit and pages. -/
theorem kept_jobsAgree : Kept True State.jobsAgree where
  same {s t} same h := by
    obtain ⟨h, idle⟩ := (jobsAgree_iff s).mp h
    refine jobsAgree_of_sameUnit (h.of_same same.table same.pages same.fifo same.current fun c => ?_) idle same.fifo same.current
    obtain ⟨job, n, captured, -⟩ := same.chan c
    exact ⟨job, n, captured⟩
  grant {s c i j} served free next h := by
    obtain ⟨h, idle⟩ := (jobsAgree_iff s).mp h
    exact jobsAgree_of_sameUnit (h.grant (served trivial) free next) idle rfl rfl
  expiry _ hg h := expiry_jobsAgree h hg
  timestamp t _ hg more h := writeTimestamp_jobsAgree h t hg more
  lastTimestamp t _ hg last h := lastTimestamp_jobsAgree h t hg last
  runt hg h := runt_jobsAgree h hg
  loss h := endAcquisitions_jobsAgree h
  offline k h := endQueuedOn_jobsAgree h k
  retire found complete h := retire_jobsAgree h found complete
  accept valid h := accept_jobsAgree h (admits_of_validate valid)
  cancel found running live h := cancel_jobsAgree h found running live
  takeHead {s} h := ((jobsAgree_iff s).mp h).1.takeHead
  portReset p h := cleared_jobsAgree h p
  reduced reducing found h := completeReduction_jobsAgree h reducing found
  floor _ h := h
  profile _ _ _ h := h
  window _ _ _ _ _ h := h
  writeLimit _ _ _ h := h
  freeze _ h := h
  thaw _ _ h := h
  reset := poweredOn_jobsAgree

/-- Settles O12: each operation on jobs detaches the jobs it moves from what refers to them and attaches them again, or ends them. -/
theorem stepKeepsJobs : Obligations.StepKeepsJobs := fun _ _ links h ht => (Sound.step kept_jobsAgree ⟨fun _ => links, h⟩ ht)

end Sys2Proof.JobProofs
end

section
namespace Sys2Proof.JobProofs

open Sys2Proof Sys2Proof.Machine Sys2Proof.LaneProofs

/-! ### Handles in bytes, and who may act on a job (R51, R58, R175) -/

theorem handleOf_code (h : Handle) : handleOf h.code = h := by
  obtain ⟨slot, gen⟩ := h
  have low : (gen ++ BitVec.ofNat 4 slot.val).extractLsb' 0 4 = BitVec.ofNat 4 slot.val := BitVec.extractLsb'_append_eq_right
  have high : (gen ++ BitVec.ofNat 4 slot.val).extractLsb' 4 4 = gen := BitVec.extractLsb'_append_eq_left
  have fin : (BitVec.ofNat 4 slot.val).toFin = slot := Fin.ext (Nat.mod_eq_of_lt slot.isLt)
  rw [handleOf, Handle.code, low, high, fin]

theorem payloadHandle_code (h : Handle) : payloadHandle [h.code] = h := by
  rw [payloadHandle, byteAt_cons_zero, BitVec.ofNat_toNat, BitVec.setWidth_eq, handleOf_code]

theorem lookup_eq_none {s : State} {h : Handle} (unknown : s.jobAt h.slot = none ∨ s.table[h.slot].gen ≠ h.gen) : s.lookup h = none := by
  rw [State.lookup]
  split
  · exact unknown.resolve_right (absurd ‹_›)
  · rfl

theorem opensTo_iff {j : Job} {p : PortNo} : j.opensTo p = true ↔ p = 0 ∨ j.port = p := by
  rw [Job.opensTo, Bool.or_eq_true, decide_eq_true_iff, decide_eq_true_iff]

theorem not_opensTo {j : Job} {p : PortNo} (station : p ≠ 0) (other : j.port ≠ p) : j.opensTo p = false :=
  Bool.eq_false_iff.mpr fun opens => (opensTo_iff.mp opens).elim station other

/-! ### READ JOB (R58, R179) -/

theorem jobFlags_eq (j : Job) :
    jobFlags j = BitVec.ofNat 8 ((if j.clamped then 1 else 0) + (if j.raised then 2 else 0) + if j.bandShort then 4 else 0) := by
  rw [jobFlags]
  cases j.clamped <;> cases j.raised <;> cases j.bandShort <;> rfl

theorem jobResponse_eq (j : Job) : jobResponse j =
    [BitVec.ofNat 8 j.port.val] ++ leBytes 2 j.tag.toNat ++ leBytes 4 j.sequence.toNat ++ [BitVec.ofNat 8 j.lane.val] ++
      leBytes 4 j.pnom ++ leBytes 2 j.dRequested ++ leBytes 2 j.dEffective ++ leBytes 2 j.n ++
      [BitVec.ofNat 8 j.bands.length, BitVec.ofNat 8 j.prioRequested, BitVec.ofNat 8 j.prioEffective,
        match j.state with | .queued => 0 | .acquiring => 1 | .waitReduce => 2 | .reducing => 3 | .complete => 4,
        match j.channel with | none => 0xFF | some c => BitVec.ofNat 8 c.val] ++
      leBytes 2 j.captured ++ leBytes 2 j.runts ++
      ([BitVec.ofNat 8 ((if j.clamped then 1 else 0) + (if j.raised then 2 else 0) + if j.bandShort then 4 else 0),
        match j.outcome with
        | none => 0xFF | some .done => 0 | some .cancelled => 1 | some .refLost => 2 | some .noEdges => 3
        | some .laneOffline => 4 | some .stopped => 5,
        match j.verdict with | none => 0xFF | some v => v.bin.code] : List Byte) := by
  rw [← jobFlags_eq]
  have state : j.state.code = match j.state with | .queued => 0 | .acquiring => 1 | .waitReduce => 2 | .reducing => 3 | .complete => 4 := by
    cases j.state <;> rfl
  have channel : optionByte (j.channel.map Fin.val) = match j.channel with | none => 0xFF | some c => BitVec.ofNat 8 c.val := by
    cases j.channel <;> rfl
  have outcome : optionCode (j.outcome.map EndOutcome.code) = match j.outcome with
      | none => 0xFF | some .done => 0 | some .cancelled => 1 | some .refLost => 2 | some .noEdges => 3
      | some .laneOffline => 4 | some .stopped => 5 := by
    rcases j.outcome with _ | o
    · rfl
    · cases o <;> rfl
  have bin : optionCode (j.verdict.map fun v => v.bin.code) = match j.verdict with | none => 0xFF | some v => v.bin.code := by
    cases j.verdict <;> rfl
  rw [jobResponse, state, channel, outcome, bin]

/-- Settles O22, by the rule of READ JOB and the layout of its answer. -/
theorem readJobAnswer : Obligations.ReadJobAnswer := by
  intro s p h
  refine ⟨fun unknown => ?_, fun j hj hg => ⟨fun station other => ?_, fun opens => ?_⟩⟩
  · refine takes_of_run rfl (by simp) rfl ?_
    rw [readJob, payloadHandle_code, lookup_eq_none unknown]
    rfl
  all_goals
    have found : s.lookup h = some j := lookup_eq_some.mpr ⟨hg, hj⟩
  · refine takes_of_run rfl (by simp) rfl ?_
    rw [readJob, payloadHandle_code, found]
    exact if_neg (by rw [not_opensTo station other]; nofun)
  · refine takes_of_run rfl (by simp) rfl ?_
    rw [readJob, payloadHandle_code, found]
    refine (if_pos (opensTo_iff.mpr opens)).trans (congrArg (Reply.answer .success · s) ?_)
    exact jobResponse_eq j

end Sys2Proof.JobProofs
end

section
namespace Sys2Proof.JobProofs

open Sys2Proof Sys2Proof.Machine Sys2Proof.LaneProofs

/-! ### TAKE COMPLETION (R153) -/

theorem attnLevel_eq (p : PortNo) (queue : List Record) (reflost : Bool) :
    attnLevel p queue reflost = (decide (queue ≠ []) || (decide (p = 0) && reflost)) := by
  cases queue <;> rfl

/-- A queue written twice stands as it was written last. -/
theorem setQueue_setQueue (s : State) (p : PortNo) (q q' : PortQueue) : (s.setQueue p q).setQueue p q' = s.setQueue p q' := by
  rw [State.setQueue, State.setQueue, State.setQueue, Vector.set_set]

/-- ATTN of a port whose queue is `q` takes its level. -/
theorem refreshAttn_setQueue (s : State) (p : PortNo) (q : PortQueue) :
    (s.setQueue p q).refreshAttn p = s.setQueue p { q with attn := attnLevel p q.queue s.ref.reflost } := by
  rw [State.refreshAttn, State.setQueue_queues_get, if_pos rfl, setQueue_setQueue]
  rfl

theorem setWaiting_setQueue (s : State) (p : PortNo) (q : PortQueue) (w : List Waiting) :
    (s.setQueue p q).setWaiting p w = s.setQueue p { q with waiting := w } := by
  rw [State.setWaiting, State.setQueue_queues_get, if_pos rfl, setQueue_setQueue]

theorem enterRecord_setQueue (s : State) (p : PortNo) (q : PortQueue) (r : Record) :
    (s.setQueue p q).enterRecord p r = s.setQueue p ⟨q.queue ++ [r], q.waiting, true⟩ := by
  rw [State.enterRecord, State.setQueue_queues_get, if_pos rfl, setQueue_setQueue]

/-- ATTN that has its level keeps it. -/
theorem refreshAttn_of_level {s : State} {p : PortNo} (level : s.queues[p].attn = attnLevel p s.queues[p].queue s.ref.reflost) :
    s.refreshAttn p = s := by
  rw [State.refreshAttn, ← level, State.setQueue]
  exact congrArg (fun queues => { s with queues := queues }) (Vector.set_getElem_self p.isLt)

/-- A queue with a record at its tail asserts ATTN. -/
theorem attnLevel_entered (p : PortNo) (l : List Record) (r : Record) (reflost : Bool) : attnLevel p (l ++ [r]) reflost = true := by
  rw [attnLevel_eq, decide_eq_true (by simp)]
  rfl

/-- Where a record has entered, ATTN is asserted already. -/
theorem refreshAttn_entered {s : State} {p : PortNo} {l : List Record} {r : Record} {w : List Waiting}
    (entered : s.queues[p] = ⟨l ++ [r], w, true⟩) : s.refreshAttn p = s :=
  refreshAttn_of_level (by rw [entered, attnLevel_entered])

section

variable {s : State} {p : PortNo} (rest : List Record)

theorem dropHead_of_none (nothing : s.queues[p].waiting = []) : s.dropHead p rest =
    s.setQueue p ⟨rest, [], decide (rest ≠ []) || (decide (p = 0) && s.ref.reflost)⟩ := by
  rw [State.dropHead, nothing, State.admitWaiting, setWaiting_setQueue, refreshAttn_setQueue, attnLevel_eq]

theorem dropHead_of_service {r : ServiceReport} {d : Bool} {w : List Waiting} (waits : s.queues[p].waiting = .service r d :: w) :
    s.dropHead p rest = s.setQueue p ⟨rest ++ [.service r s.ref.lineTime (timeDegraded s.ref) d], w, true⟩ := by
  rw [State.dropHead, waits, State.admitWaiting, setWaiting_setQueue, State.enterService, enterRecord_setQueue]
  exact refreshAttn_entered ((State.setQueue_queues_get ..).trans (if_pos rfl))

theorem dropHead_of_job {h : Handle} {w : List Waiting} {j : Job} (waits : s.queues[p].waiting = .job h :: w)
    (found : s.lookup h = some j) (complete : j.state = .complete) :
    s.dropHead p rest = (s.setQueue p ⟨rest ++ [.job h j s.ref.lineTime (timeDegraded s.ref)], w, true⟩).retire h.slot j := by
  let u := s.setQueue p { s.queues[p] with queue := rest }
  let r : Record := .job h j s.ref.lineTime (timeDegraded s.ref)
  let t := s.setQueue p ⟨rest ++ [r], w, true⟩
  have entered : (t.retire h.slot j).queues[p] = ⟨rest ++ [r], w, true⟩ := by
    obtain ⟨-, -, -, queues, -⟩ := retire_eq t h.slot j
    rw [queues]
    exact (State.setQueue_queues_get ..).trans (if_pos rfl)
  have found' : u.lookup h = some j := found
  have handle : (s.setQueue p ⟨rest, w, s.queues[p].attn⟩).handleAt h.slot = h := handleAt_of_lookup found
  rw [State.dropHead, waits, State.admitWaiting, found']
  dsimp only
  rw [if_pos complete, setWaiting_setQueue, State.enterJob, enterRecord_setQueue, handle]
  exact refreshAttn_entered entered

end

theorem takeCompletion_of_cons {s : State} {p : PortNo} {record : Record} {rest : List Record}
    (head : s.queues[p].queue = record :: rest) : Machine.takeCompletion s p = .answer .success record.bytes (s.dropHead p rest) := by
  rw [Machine.takeCompletion, head]

/-- Settles O55, by what the head of the waiting completions is. -/
theorem takeCompletion : Obligations.TakeCompletion := by
  intro s p
  refine ⟨fun empty => ?_, fun record rest head => ⟨fun nothing => ?_, fun r d w waits => ?_, fun h w j waits hj hg complete => ?_⟩⟩
  · refine takes_of_run (run := fun _ => Machine.takeCompletion s p) rfl (by simp) rfl ?_
    rw [Machine.takeCompletion, empty]
  all_goals
    refine takes_of_run (run := fun _ => Machine.takeCompletion s p) rfl (by simp) rfl ((takeCompletion_of_cons head).trans ?_)
    refine congrArg (Reply.answer .success record.bytes) ?_
  · exact dropHead_of_none rest nothing
  · exact dropHead_of_service rest waits
  · rw [dropHead_of_job rest waits (lookup_eq_some.mpr ⟨hg, hj⟩) complete, State.retire]
    cases j.limitSet <;> rfl

end Sys2Proof.JobProofs
end

section
namespace Sys2Proof.JobProofs

open Sys2Proof Sys2Proof.Machine Sys2Proof.LaneProofs

/-! ### The ranking of R67 -/

/-- `a` ranks before `b`: by effective priority, by age, by the lower slot (R67). -/
def Ranks (s : State) (a b : SlotNo × Job) : Prop :=
  b.2.prioEffective < a.2.prioEffective ∨ (b.2.prioEffective = a.2.prioEffective ∧
    (s.age b.2 < s.age a.2 ∨ (s.age b.2 = s.age a.2 ∧ a.1.val < b.1.val)))

theorem Ranks.trans {s : State} {a b c : SlotNo × Job} (h : Ranks s a b) (h' : Ranks s b c) : Ranks s a c := by
  unfold Ranks at *
  omega

theorem outranks_iff {s : State} {a b : Job} : s.outranks a b = true ↔
    b.prioEffective < a.prioEffective ∨ (a.prioEffective = b.prioEffective ∧ s.age b < s.age a) := by
  simp [State.outranks]

theorem firstRanked_eq_none {s : State} {l : List (SlotNo × Job)} (h : s.firstRanked l = none) : l = [] := by
  cases l with
  | nil => rfl
  | cons x r =>
    unfold State.firstRanked at h
    split at h
    · cases h
    · split at h <;> cases h

/-- In a list by ascending slot the first-ranked job ranks before all others. -/
theorem ranks_of_firstRanked {s : State} {l : List (SlotNo × Job)} (rising : l.Pairwise fun a b => a.1.val < b.1.val)
    {m : SlotNo × Job} (first : s.firstRanked l = some m) : ∀ b ∈ l, b ≠ m → Ranks s m b := by
  induction l generalizing m with
  | nil => cases first
  | cons x r ih =>
    obtain ⟨before, rising⟩ := List.pairwise_cons.mp rising
    unfold State.firstRanked at first
    split at first
    · rename_i nobody
      cases first
      intro b hb other
      rw [firstRanked_eq_none nobody] at hb
      exact absurd (List.mem_singleton.mp hb) other
    · rename_i y hy
      have behind := ih rising hy
      split at first
      · rename_i outranks
        cases first
        intro b hb other
        rcases List.mem_cons.mp hb with rfl | hb
        · exact (outranks_iff.mp outranks).imp id fun h => ⟨h.1.symm, .inl h.2⟩
        · exact behind b hb other
      · rename_i notOutranks
        cases first
        have ahead : Ranks s x y := by
          have lower := before y (mem_of_firstRanked hy)
          rw [outranks_iff] at notOutranks
          unfold Ranks
          omega
        intro b hb other
        have hb := (List.mem_cons.mp hb).resolve_left other
        by_cases hby : b = y
        · exact hby ▸ ahead
        · exact ahead.trans (behind b hb hby)

/-- The job granted next ranks before every other that is eligible (R67). -/
theorem ranks_of_nextJob {s : State} {i : SlotNo} {j : Job} (next : s.nextJob = some (i, j)) {m : SlotNo} {k : Job}
    (hk : s.jobAt m = some k) (eligible : s.eligible k = true) (hm : m ≠ i) : Ranks s (i, j) (m, k) :=
  ranks_of_firstRanked (selectJobs_rising s _) next (m, k) (mem_selectJobs.mpr ⟨hk, eligible⟩) fun same => hm (congrArg Prod.fst same)

theorem not_eligible_of_nextJob {s : State} (next : s.nextJob = none) {i : SlotNo} {j : Job} (hj : s.jobAt i = some j) :
    s.eligible j = false := by
  by_contra eligible
  have member := mem_selectJobs (sel := fun _ j => s.eligible j) |>.mpr ⟨hj, Bool.of_not_eq_false eligible⟩
  rw [firstRanked_eq_none next] at member
  cases member

/-! ### The lowest free channel, and the number of grants (R65) -/

/-- The first index that a test finds. -/
theorem find?_finRange {n : Nat} {f : Fin n → Bool} {k : Fin n} (h : (List.finRange n).find? f = some k) :
    f k = true ∧ ∀ m : Fin n, m.val < k.val → f m = false := by
  obtain ⟨found, i, hi, rfl, before⟩ := List.find?_eq_some_iff_getElem.mp h
  refine ⟨found, fun m hm => ?_⟩
  have skipped := before m.val (by simpa using hm)
  simpa using skipped

theorem channelFree_iff {s : State} {c : ChannelNo} : s.channelFree c = true ↔ s.service[c] = .inService ∧ s.chans[c].activity = .idle := by
  rw [State.channelFree, Bool.and_eq_true, decide_eq_true_iff, decide_eq_true_iff]

/-- How many channels are free. -/
def freeCount (s : State) : Nat := (List.finRange 4).countP s.channelFree

theorem freeChannel_eq_none {s : State} (h : freeCount s = 0) : s.freeChannel = none :=
  List.find?_eq_none.mpr (List.countP_eq_zero.mp h)

/-- A grant takes a free channel. -/
theorem freeCount_grant {s : State} {c : ChannelNo} (free : s.freeChannel = some c) (i : SlotNo) (j : Job) :
    freeCount (s.grant c i j) < freeCount s := by
  have split : freeCount s = freeCount (s.grant c i j) + (List.finRange 4).countP fun d => decide (c = d) := by
    refine countP_add _ fun d => ?_
    have granted := grant_chans s c i j d
    by_cases hd : c = d
    · subst hd
      rw [if_pos rfl] at granted
      have taken : (s.grant c i j).channelFree c = false :=
        Bool.eq_false_iff.mpr fun still => by
          have idle := (channelFree_iff.mp still).2
          rw [granted] at idle
          cases idle
      rw [channelFree_iff.mpr (mem_freeChannel free), taken, decide_eq_true rfl]
      rfl
    · rw [if_neg hd] at granted
      have same : (s.grant c i j).channelFree d = s.channelFree d := by
        rw [State.channelFree, granted]
        rfl
      rw [same, decide_eq_false hd]
      rfl
  have one : 0 < (List.finRange 4).countP fun d => decide (c = d) :=
    List.countP_pos_iff.mpr ⟨c, List.mem_finRange c, decide_eq_true rfl⟩
  omega

theorem arbitrateUpTo_of_none {s : State} (none : s.freeChannel = none ∨ s.nextJob = none) (n : Nat) : State.arbitrateUpTo n s = s := by
  cases n with
  | zero => rfl
  | succ n =>
    unfold State.arbitrateUpTo
    split
    · rename_i hc hj
      rcases none with h | h
      · cases h.symm.trans hc
      · cases h.symm.trans hj
    · rfl

theorem arbitrateUpTo_of_some {s : State} {c : ChannelNo} {i : SlotNo} {j : Job} (free : s.freeChannel = some c)
    (next : s.nextJob = some (i, j)) (n : Nat) : State.arbitrateUpTo (n + 1) s = State.arbitrateUpTo n (s.grant c i j) := by
  rw [State.arbitrateUpTo, free, next]

/-- There are no more grants than free channels. -/
theorem arbitrateUpTo_succ (n : Nat) {s : State} (h : freeCount s ≤ n) : State.arbitrateUpTo (n + 1) s = State.arbitrateUpTo n s := by
  induction n generalizing s with
  | zero => exact arbitrateUpTo_of_none (.inl (freeChannel_eq_none (Nat.le_zero.mp h))) 1
  | succ n ih =>
    cases hc : s.freeChannel with
    | none => rw [arbitrateUpTo_of_none (.inl hc), arbitrateUpTo_of_none (.inl hc)]
    | some c =>
      cases hj : s.nextJob with
      | none => rw [arbitrateUpTo_of_none (.inr hj), arbitrateUpTo_of_none (.inr hj)]
      | some x =>
        obtain ⟨i, j⟩ := x
        have fewer := freeCount_grant hc i j
        rw [arbitrateUpTo_of_some hc hj, arbitrateUpTo_of_some hc hj, ih (by omega)]

/-- A decision goes on from its first grant as a decision of the state that this grant leaves. -/
theorem arbitrate_of_some {s : State} {c : ChannelNo} {i : SlotNo} {j : Job} (free : s.freeChannel = some c)
    (next : s.nextJob = some (i, j)) : s.arbitrate = (s.grant c i j).arbitrate := by
  have four : freeCount s ≤ 4 := List.countP_le_length
  have fewer := freeCount_grant free i j
  rw [State.arbitrate, State.arbitrate, arbitrateUpTo_of_some free next, arbitrateUpTo_succ 3 (by omega)]

/-- Settles O38: the ranking is strict and transitive, and a decision is its first grant and then a decision. -/
theorem firstRankedFirst : Obligations.FirstRankedFirst := by
  intro s
  refine ⟨fun i j next => ?_, fun next i j hj => not_eligible_of_nextJob next hj, fun c free => ?_, fun c i j free next => ?_,
    fun none => arbitrateUpTo_of_none none 4⟩
  · obtain ⟨here, eligible⟩ := nextJob_eligible next
    exact ⟨here, eligible, fun m k hk eligible hm => ranks_of_nextJob next hk eligible hm⟩
  · obtain ⟨service, idle⟩ := mem_freeChannel free
    refine ⟨service, idle, fun d hd still => ?_⟩
    cases ((find?_finRange free).2 d hd).symm.trans (channelFree_iff.mpr still)
  · have decided := arbitrate_of_some free next
    obtain ⟨slot, entry, -, chan⟩ := (arbitrateUpTo_onlyGrants 4 (s.grant c i j)).keeps_grant
    change (s.grant c i j).arbitrate.table[i] = _ at slot
    change (s.grant c i j).arbitrate.xpoint[c] = _ at entry
    change (s.grant c i j).arbitrate.chans[c] = _ at chan
    rw [← decided] at slot entry chan
    exact ⟨slot, congrArg Channel.job chan, entry, decided⟩

end Sys2Proof.JobProofs
end

section
namespace Sys2Proof.JobProofs

open Sys2Proof Sys2Proof.Machine Sys2Proof.LaneProofs

/-! ### CANCEL (R51 to R55) -/

/-- The end of a job writes what `ended` speaks of, and nothing else. -/
theorem completeJob_eq_withJobsOf (s : State) (i : SlotNo) (o : EndOutcome) (v : Verdict) :
    s.completeJob i o v = s.withJobsOf (s.completeJob i o v) := by
  obtain ⟨_, _, _, _, _, frame⟩ := s.completeJob_frame i o v
  rw [frame]
  rfl

theorem withdraw_of_queued {s : State} {j : Job} (hs : j.state = .queued) (i : SlotNo) : s.withdraw i j = s := by
  rw [State.withdraw, hs]

theorem withdraw_of_waitReduce {s : State} {j : Job} (hs : j.state = .waitReduce) (i : SlotNo) :
    s.withdraw i j = { s with fifo := s.fifo.filter fun h => decide (h ≠ s.handleAt i) } := by
  rw [State.withdraw, hs]

theorem cutChannel_of_lane {s : State} {c : ChannelNo} {k : LaneNo} (hx : s.xpoint[c] = .lane k) :
    s.cutChannel c = s.freed c k { s.chans[c] with activity := .idle, job := none, timer := none, decimation := 0 } := by
  rw [State.cutChannel, State.disconnect, hx]
  rfl

theorem withdraw_of_acquiring {s : State} {i : SlotNo} {j : Job} {c : ChannelNo} (hs : j.state = .acquiring) (hc : j.channel = some c)
    (served : s.chans[c].job = some (s.handleAt i)) : s.withdraw i j = s.cutChannel c := by
  rw [State.withdraw, hs, hc]
  exact if_pos served

section

variable {s : State} {p : PortNo} {h : Handle}

theorem cancel_unknown (unknown : s.jobAt h.slot = none ∨ s.table[h.slot].gen ≠ h.gen) :
    Machine.cancel s p [h.code] = refuse .unknownJob s := by
  rw [Machine.cancel, payloadHandle_code, lookup_eq_none unknown]

variable {j : Job} (found : s.lookup h = some j)

include found

theorem cancel_notPermitted (station : p ≠ 0) (other : j.port ≠ p) : Machine.cancel s p [h.code] = refuse .notPermitted s := by
  rw [Machine.cancel, payloadHandle_code, found]
  exact if_pos (by rw [not_opensTo station other]; rfl)

theorem cancel_tooLate (opens : p = 0 ∨ j.port = p) (late : j.state = .reducing ∨ j.state = .complete) :
    Machine.cancel s p [h.code] = refuse .tooLate s := by
  rw [Machine.cancel, payloadHandle_code, found]
  exact (if_neg (by rw [opensTo_iff.mpr opens]; nofun)).trans (if_pos late)

theorem cancel_success (opens : p = 0 ∨ j.port = p) (inTime : ¬ (j.state = .reducing ∨ j.state = .complete)) :
    Machine.cancel s p [h.code] = succeed (s.cancelJob h.slot j) := by
  rw [Machine.cancel, payloadHandle_code, found]
  exact (if_neg (by rw [opensTo_iff.mpr opens]; nofun)).trans (if_neg inTime)

end

section

variable {s : State} {i : SlotNo} {j : Job}

theorem cancelJob_of_queued (hs : j.state = .queued) : s.cancelJob i j = s.completeJob i .cancelled .aborted := by
  rw [State.cancelJob, withdraw_of_queued hs, hs]

/-- The Reduction Unit is busy while entries wait, so that none is taken when one of them leaves. -/
theorem cancelJob_of_waitReduce (hs : j.state = .waitReduce) (busy : s.current ≠ none) : s.cancelJob i j =
    ({ s with fifo := s.fifo.filter fun h => decide (h ≠ s.handleAt i) } : State).completeJob i .cancelled .aborted := by
  obtain ⟨g, current⟩ := Option.ne_none_iff_exists'.mp busy
  rw [State.cancelJob, withdraw_of_waitReduce hs, hs]
  exact takeHead_of_busy ((State.completeJob_current ..).trans current)

theorem cancelJob_of_acquiring {c : ChannelNo} (hs : j.state = .acquiring) (hc : j.channel = some c)
    (served : s.chans[c].job = some (s.handleAt i)) : s.cancelJob i j = ((s.cutChannel c).completeJob i .cancelled .aborted).decided := by
  rw [State.cancelJob, withdraw_of_acquiring hs hc served, hs]
  exact afterAcquisition_eq_decided _

end

/-- Settles O36: the refusals in order, and for each state the withdrawal of the job followed by its end. -/
theorem cancel : Obligations.Cancel := by
  constructor
  · intro s p h
    refine ⟨fun unknown => takes_of_run rfl (by simp) rfl (cancel_unknown unknown), fun j hj hg => ?_⟩
    have found : s.lookup h = some j := lookup_eq_some.mpr ⟨hg, hj⟩
    exact ⟨fun station other => takes_of_run rfl (by simp) rfl (cancel_notPermitted found station other),
      fun opens late => takes_of_run rfl (by simp) rfl (cancel_tooLate found opens late)⟩
  · intro s p h j _ agree hj hg opens
    have found : s.lookup h = some j := lookup_eq_some.mpr ⟨hg, hj⟩
    have handle := handleAt_of_lookup found
    obtain ⟨⟨-, acquires⟩, ⟨-, -, waits, -, -, idle⟩, -, -⟩ := agree
    have takes {u : State} (inTime : ¬ (j.state = .reducing ∨ j.state = .complete)) (ends : s.cancelJob h.slot j = u) :
        s.takes .cancel 0x02 p [h.code] u .success [] :=
      takes_of_run rfl (by simp) rfl ((cancel_success found opens inTime).trans (congrArg succeed ends))
    refine ⟨fun hs => ?_, fun hs => ?_, fun hs c k hc hx => ?_⟩
    · exact ⟨_, takes (by rw [hs]; nofun) (cancelJob_of_queued hs), completeJob_ended hj .cancelled .aborted,
        completeJob_eq_withJobsOf ..⟩
    · have busy : s.current ≠ none := fun none => by
        have member := waits h.slot j hj hs
        rw [idle none] at member
        cases member
      have ends := cancelJob_of_waitReduce (i := h.slot) hs busy
      rw [handle] at ends
      let v : State := { s with fifo := s.fifo.filter fun h' => decide (h' ≠ h) }
      have ended : ended v (v.completeJob h.slot .cancelled .aborted) h.slot (j.aborted .cancelled) :=
        completeJob_ended (s := v) hj .cancelled .aborted
      exact ⟨_, takes (by rw [hs]; nofun) ends, ended, completeJob_eq_withJobsOf v ..⟩
    · have served := ((acquires h.slot j hj).2 c hc).1
      have ends := cancelJob_of_acquiring hs hc served
      rw [cutChannel_of_lane hx] at ends
      let v := s.freed c k { s.chans[c] with activity := .idle, job := none, timer := none, decimation := 0 }
      have ended : ended v (v.completeJob h.slot .cancelled .aborted) h.slot (j.aborted .cancelled) :=
        completeJob_ended (s := v) hj .cancelled .aborted
      exact ⟨_, takes (by rw [hs]; nofun) ends, ended, completeJob_eq_withJobsOf v ..⟩

end Sys2Proof.JobProofs
end

section
namespace Sys2Proof.JobProofs

open Sys2Proof Sys2Proof.Machine Sys2Proof.LaneProofs

/-! ### The nine conditions of R42 -/

theorem firstCode_cons (b : Bool) (code : Status) (l : List (Bool × Status)) :
    firstCode ((b, code) :: l) = if b then some code else firstCode l := by
  cases b <;> rfl

/-- The code of a refused SUBMIT; none where it is accepted. -/
def refusalOf : Except Status Admission → Option Status
  | .error code => some code
  | .ok _ => none

theorem refusalOf_ite (c : Prop) [Decidable c] (code : Status) (x : Except Status Admission) :
    refusalOf (if c then .error code else x) = if c then some code else refusalOf x := by
  split <;> rfl

theorem keepsOut_eq (o : Owner) (p : PortNo) : keepsOut o p = !o.admits p := by
  revert p
  cases o <;> decide

theorem recipeOk_iff (f : SubmitFields) : f.recipeOk = true ↔
    40960 ≤ f.pnom ∧ f.pnom ≤ 16384000 ∧ 1 ≤ f.d ∧ f.d ≤ 4096 ∧ 8 ≤ f.n ∧ f.n ≤ 16384 ∧ f.bands.length ≤ 4 ∧
      (∀ w ∈ f.bands, w ∈ blockLengths) ∧ f.priority ≤ 3 := by
  simp [SubmitFields.recipeOk, and_assoc]

theorem badRecipe_eq (f : SubmitFields) :
    decide (f.pnom < 40960 ∨ 16384000 < f.pnom ∨ f.d = 0 ∨ 4096 < f.d ∨ f.n < 8 ∨ 16384 < f.n ∨ 4 < f.bands.length ∨
      (∃ w ∈ f.bands, w ∉ [4, 8, 16, 32, 64, 128, 256, 512, 1024]) ∨ 3 < f.priority) = !f.recipeOk := by
  rw [Bool.eq_iff_iff, decide_eq_true_iff, Bool.not_eq_true', ← Bool.not_eq_true, recipeOk_iff]
  simp only [not_and_or, Nat.not_le, not_forall, exists_prop, Nat.lt_one_iff, blockLengths]

theorem pagesBusy_eq (s : State) (base n : Nat) :
    decide (∃ q : PageNo, base ≤ q.val ∧ q.val < base + (n + 1023) / 1024 ∧ s.pages[q].isSome) = s.anyHeld base (pagesFor n) := by
  rw [Bool.eq_iff_iff, decide_eq_true_iff, State.anyHeld, List.any_eq_true]
  simp only [List.mem_finRange, true_and, inPageRange, Bool.and_eq_true, decide_eq_true_iff, and_assoc]
  rfl

theorem limitsOpen_eq (s : State) (v : Nat) :
    (decide (v ≠ 255) && (named 8 v).all fun x => decide (s.limits[x].state ≠ .frozen)) = (s.namedSet v).isNone := by
  unfold State.namedSet
  by_cases absent : v = 255
  · rw [if_pos absent, decide_eq_false (not_not_intro absent)]
    rfl
  · rw [if_neg absent, decide_eq_true absent]
    cases named 8 v with
    | none => rfl
    | some x =>
      dsimp only [Option.all_some, Bool.true_and]
      split
      · exact decide_eq_false (not_not_intro ‹_›)
      · exact decide_eq_true ‹_›

theorem tableFull_eq (s : State) : decide (∀ i : SlotNo, (s.jobAt i).isSome) = s.freeSlot.isNone := by
  rw [Bool.eq_iff_iff, decide_eq_true_iff, Option.isNone_iff_eq_none, State.freeSlot, List.find?_eq_none]
  simp only [List.mem_finRange, true_imp_iff, Bool.not_eq_true, Option.isNone_eq_false_iff]

/-- R42's list and the validation answer the same. -/
theorem firstCode_submitConditions (s : State) (p : PortNo) (f : SubmitFields) :
    firstCode (s.submitConditions p f) = refusalOf (s.validate p f) := by
  rw [State.submitConditions, limitsOpen_eq, tableFull_eq, badRecipe_eq]
  unfold State.validate
  cases named 32 f.lane with
  | none => rfl
  | some k =>
    cases named 8 f.window with
    | none =>
      simp only [firstCode_cons, refusalOf_ite, Option.all_some, Option.any_some, Option.all_none, decide_eq_true_eq, keepsOut_eq]
      rfl
    | some w =>
      simp only [firstCode_cons, refusalOf_ite, Option.all_some, Option.any_some, decide_eq_true_eq, keepsOut_eq, pagesBusy_eq]
      cases s.namedSet f.limitSet with
      | none => rfl
      | some x =>
        simp only [refusalOf_ite]
        cases s.freeSlot <;> rfl

end Sys2Proof.JobProofs
end

section
namespace Sys2Proof.JobProofs

open Sys2Proof Sys2Proof.Machine Sys2Proof.LaneProofs

/-! ### What an accepted SUBMIT makes (R43 to R46) -/

theorem val_of_named {n v : Nat} {k : Fin n} (h : named n v = some k) : k.val = v := by
  unfold named at h
  split at h
  · cases h
    rfl
  · cases h

theorem byteAt_eq_getD (payload : List Byte) (n : Nat) : byteAt payload n = (payload.getD n 0).toNat := by
  induction payload generalizing n with
  | nil => simp [byteAt, field, leValue]
  | cons b r ih =>
    cases n with
    | zero => exact byteAt_cons_zero b r
    | succ n => exact ih n

theorem effectiveDecimation_eq {d pnom : Nat} (positive : 0 < pnom) :
    effectiveDecimation d pnom = if 262144 ≤ d * pnom then d else (262144 + (pnom - 1)) / pnom := by
  rw [effectiveDecimation, spansDeadTime, Nat.add_sub_assoc positive]
  simp only [decide_eq_true_iff, Config.deadTime]

theorem priorityClamped_eq (requested ceiling : Nat) : priorityClamped requested ceiling = decide (ceiling < requested) := by
  rw [priorityClamped, effectivePriority, decide_eq_decide]
  omega

theorem decimRaised_eq (d pnom : Nat) : decimRaised d pnom = decide (d * pnom < 262144) := by
  rw [decimRaised, spansDeadTime, ← decide_not, decide_eq_decide, Nat.not_le]

theorem limitSet_of_namedSet {s : State} {v : Nat} {x : Option SetNo} (h : s.namedSet v = some x) :
    (if v = 255 then none else named 8 v) = x := by
  unfold State.namedSet at h
  split
  · rw [if_pos ‹_›] at h
    exact Option.some.inj h
  · rw [if_neg ‹_›] at h
    split at h
    · split at h <;> cases h
      assumption
    · cases h

theorem newJob_eq {s : State} {p : PortNo} {f : SubmitFields} {a : Admission} (admits : Admits s p f a) :
    s.newJob p f a = acceptedJob s p f a.lane a.window := by
  obtain ⟨period, -⟩ := (recipeOk_iff f).mp admits.recipe
  rw [State.newJob, acceptedJob, effectiveDecimation_eq (by omega), priorityClamped_eq, decimRaised_eq,
    limitSet_of_namedSet admits.limitSet]
  rfl

theorem takePages_pages (s : State) (base n : Nat) (h : Handle) : (s.takePages base (pagesFor n) h).pages =
    Vector.ofFn fun q : PageNo => if base ≤ q.val ∧ q.val < base + (n + 1023) / 1024 then some h else s.pages[q] := by
  refine congrArg Vector.ofFn (funext fun q => ?_)
  rw [inPageRange, ← Bool.decide_and, pagesFor]
  simp only [decide_eq_true_iff, Config.pageWords]

/-- The state that an acceptance leaves before the decision (R46). -/
theorem accept_state (s : State) (p : PortNo) (i : SlotNo) (j : Job) : s.accept p i j = { s with
    table := s.table.set i ⟨s.table[i].gen, some j⟩
    seqCounter := s.seqCounter + 1
    pages := Vector.ofFn fun q : PageNo =>
      if j.basePage ≤ q.val ∧ q.val < j.basePage + (j.n + 1023) / 1024 then some (s.handleAt i) else s.pages[q]
    limits := match j.limitSet with
      | none => s.limits
      | some x => s.limits.set x { s.limits[x] with references := s.limits[x].references + 1 }
    held := s.held.set p (s.held[p] + 1) } := by
  rw [← takePages_pages, State.accept]
  cases j.limitSet <;> rfl

theorem submitFlags_eq (j : Job) : submitFlags j = BitVec.ofNat 8 ((if j.clamped then 1 else 0) + if j.raised then 2 else 0) := by
  rw [submitFlags]
  cases j.clamped <;> cases j.raised <;> rfl

/-! ### SUBMIT -/

section

variable {s : State} {p : PortNo} {payload : List Byte}

theorem submit_refused {status : Status} (h : firstCode (s.submitConditions p (submitFields payload)) = some status) :
    Machine.submit s p payload = refuse status s := by
  rw [firstCode_submitConditions] at h
  unfold Machine.submit
  cases valid : s.validate p (submitFields payload) with
  | error code =>
    rw [valid] at h
    cases h
    rfl
  | ok a =>
    rw [valid] at h
    cases h

theorem validate_of_firstCode {f : SubmitFields} (h : firstCode (s.submitConditions p f) = none) : ∃ a, s.validate p f = .ok a := by
  rw [firstCode_submitConditions] at h
  cases valid : s.validate p f with
  | error code =>
    rw [valid] at h
    cases h
  | ok a => exact ⟨a, rfl⟩

theorem frameRefusal_submit (length : payload.length = 15 + 2 * (payload.getD 14 0).toNat) : frameRefusal p 0x01 payload = none := by
  have required : requiredLength 0x01 payload = some payload.length := by
    rw [length, ← byteAt_eq_getD]
    rfl
  rw [frameRefusal, required]
  exact (if_neg nofun).trans (if_neg (not_not_intro rfl))

end

/-- Settles O34: R42's list is the order of the validation, and an acceptance writes what R46 lists. -/
theorem submit : Obligations.Submit := by
  intro s p payload short _ length
  have passes : frameRefusal p 0x01 payload = none := frameRefusal_submit length
  refine ⟨fun status h => takes_of_run rfl short passes (submit_refused h), fun h => ?_⟩
  obtain ⟨a, valid⟩ := validate_of_firstCode h
  have admits := admits_of_validate valid
  obtain ⟨free, before⟩ := find?_finRange admits.slot
  refine ⟨a.lane, a.window, a.slot, val_of_named admits.lane, val_of_named admits.window, freeSlot_jobAt admits.slot, fun m hm => ?_,
    takes_of_run rfl short passes ?_⟩
  · exact Option.isNone_eq_false_iff.mp (before m hm)
  · rw [Machine.submit, valid]
    dsimp only
    rw [newJob_eq admits, accept_state, submitResponse, submitFlags_eq]
    rfl

end Sys2Proof.JobProofs
end

section
namespace Sys2Proof.JobProofs

open Sys2Proof Sys2Proof.Machine Sys2Proof.LaneProofs

/-! ### What discards give up (R59) -/

/-- From `s` to `t` the jobs of the slots `l` have left the table, with their held counts, references and pages. -/
structure Discards (s t : State) (l : List SlotNo) : Prop where
  stays : ∀ m, m ∉ l → t.table[m] = s.table[m]
  leaves : ∀ m ∈ l, t.table[m] = ⟨s.table[m].gen + 1, none⟩
  held : ∀ p : PortNo, t.held[p] = s.held[p] - l.countP fun i => (s.jobAt i).any fun j => decide (j.port = p)
  limits : ∀ x : SetNo, t.limits[x] = { s.limits[x] with
    references := s.limits[x].references - l.countP fun i => (s.jobAt i).any fun j => decide (j.limitSet = some x) }
  releases : ∀ q : PageNo, ∀ i ∈ l, s.pages[q] = some (s.handleAt i) → t.pages[q] = none
  keeps : ∀ q : PageNo, (∀ i ∈ l, s.pages[q] ≠ some (s.handleAt i)) → t.pages[q] = s.pages[q]

theorem Discards.refl (s : State) : Discards s s [] := ⟨fun _ _ => rfl, nofun, fun _ => rfl, fun _ => rfl, nofun, fun _ _ => rfl⟩

/-- What comes before a discarded job leaves the table writes pages alone of what `Discards` speaks of. -/
theorem withdraw_releasePages (s : State) (i : SlotNo) (j : Job) (g : Handle) :
    ((s.withdraw i j).releasePages g).table = s.table ∧ ((s.withdraw i j).releasePages g).held = s.held ∧
      ((s.withdraw i j).releasePages g).limits = s.limits ∧
      ∀ q : PageNo, ((s.withdraw i j).releasePages g).pages[q] = if s.pages[q] = some g then none else s.pages[q] := by
  have page := releasePages_pages (s.withdraw i j) g
  obtain ⟨_, released⟩ := releasePages_frame (s.withdraw i j) g
  rw [released] at page ⊢
  obtain ⟨_, _, _, _, _, frame⟩ := s.withdraw_frame i j
  rw [frame] at page ⊢
  exact ⟨rfl, rfl, rfl, page⟩

theorem discard_discards {s : State} {i : SlotNo} {j : Job} (hj : s.jobAt i = some j) : Discards s (s.discard i) [i] := by
  obtain ⟨sameTable, sameHeld, sameLimits, released⟩ := withdraw_releasePages s i j (s.handleAt i)
  rw [discard_of_some hj]
  generalize (s.withdraw i j).releasePages (s.handleAt i) = v at *
  have table (m : SlotNo) := retire_table v i m j
  have limit (x : SetNo) := dropReference_limits v j.limitSet x
  obtain ⟨-, held, limits, -, pages⟩ := retire_eq v i j
  rw [← limits, sameLimits] at limit
  rw [sameHeld] at held
  rw [sameTable] at table
  refine ⟨fun m hm => ?_, fun m hm => ?_, fun p => ?_, fun x => ?_, fun q m hm hq => ?_, fun q hq => ?_⟩
  · rw [table, if_neg fun same => hm (List.mem_singleton.mpr same.symm)]
  · rw [List.mem_singleton.mp hm, table, if_pos rfl]
  · rw [held, getElem_set_fin, List.countP_singleton, hj, Option.any_some]
    by_cases hp : j.port = p
    · subst hp
      rw [if_pos rfl, decide_eq_true rfl]
      rfl
    · rw [if_neg hp, decide_eq_false hp]
      rfl
  · rw [limit, List.countP_singleton, hj, Option.any_some]
    by_cases hx : j.limitSet = some x
    · rw [if_pos hx, decide_eq_true hx]
      rfl
    · rw [if_neg hx, decide_eq_false hx]
      rfl
  · rw [List.mem_singleton.mp hm] at hq
    rw [pages, released, if_pos hq]
  · rw [pages, released, if_neg (hq i (List.mem_singleton_self i))]

theorem Discards.append {s t u : State} {l l' : List SlotNo} (h : Discards s t l) (h' : Discards t u l') (apart : l.Disjoint l') :
    Discards s u (l ++ l') := by
  have later {m : SlotNo} (hm : m ∈ l') : t.table[m] = s.table[m] := h.stays m fun before => apart before hm
  have count (sel : Job → Bool) : (l'.countP fun i => (t.jobAt i).any sel) = l'.countP fun i => (s.jobAt i).any sel :=
    List.countP_congr fun i hi => by rw [jobAt_congr (later hi)]
  refine ⟨fun m hm => ?_, fun m hm => ?_, fun p => ?_, fun x => ?_, fun q m hm hq => ?_, fun q hq => ?_⟩
  · obtain ⟨first, second⟩ := not_or.mp (mt List.mem_append.mpr hm)
    exact (h'.stays m second).trans (h.stays m first)
  · rcases List.mem_append.mp hm with hm | hm
    · exact (h'.stays m fun again => apart hm again).trans (h.leaves m hm)
    · rw [h'.leaves m hm, later hm]
  · rw [h'.held, h.held, count, List.countP_append, Nat.sub_sub]
  · rw [h'.limits, h.limits, count, List.countP_append, Nat.sub_sub]
  · by_cases again : ∃ i ∈ l', t.pages[q] = some (t.handleAt i)
    · obtain ⟨i, hi, held⟩ := again
      exact h'.releases q i hi held
    · rw [h'.keeps q fun i hi held => again ⟨i, hi, held⟩]
      by_cases before : ∃ i ∈ l, s.pages[q] = some (s.handleAt i)
      · obtain ⟨i, hi, held⟩ := before
        exact h.releases q i hi held
      · have same := h.keeps q fun i hi held => before ⟨i, hi, held⟩
        rcases List.mem_append.mp hm with hm | hm
        · exact absurd ⟨m, hm, hq⟩ before
        · exact absurd ⟨m, hm, by rw [same, handleAt_congr (later hm)]; exact hq⟩ again
  · have same := h.keeps q fun i hi => hq i (List.mem_append_left l' hi)
    refine (h'.keeps q fun i hi => ?_).trans same
    rw [same, handleAt_congr (later hi)]
    exact hq i (List.mem_append_right l hi)

theorem discardAll_discards {l : List SlotNo} (distinct : l.Nodup) :
    ∀ {s : State}, (∀ i ∈ l, s.jobAt i ≠ none) → Discards s (l.foldl State.discard s) l := by
  induction l with
  | nil => exact fun {s} _ => .refl s
  | cons i l ih =>
    intro s occupied
    obtain ⟨hi, distinct⟩ := List.nodup_cons.mp distinct
    obtain ⟨j, hj⟩ := Option.ne_none_iff_exists'.mp (occupied i List.mem_cons_self)
    refine (discard_discards hj).append (ih distinct fun m hm => ?_) (List.singleton_disjoint.mpr hi)
    have apart : ¬ i = m := fun same => hi (same ▸ hm)
    rw [discard_jobAt, if_neg apart]
    exact occupied m (List.mem_cons_of_mem i hm)

end Sys2Proof.JobProofs
end

section
namespace Sys2Proof.JobProofs

open Sys2Proof Sys2Proof.Machine Sys2Proof.LaneProofs

/-! ### What discards stop (R59, R91, R116) -/

/-- From `s` to `t` whatever served a job named by `own` has stopped: its channel with the lane connected, its FIFO entry, its reduction. -/
structure Stops (own : Handle → Prop) (s t : State) : Prop where
  chan : ∀ c : ChannelNo, (∀ h, s.chans[c].job = some h → ¬ own h) → t.chans[c] = s.chans[c] ∧ t.xpoint[c] = s.xpoint[c]
  cut : ∀ (c : ChannelNo) (h : Handle), s.chans[c].job = some h → own h →
    t.chans[c] = { s.chans[c] with activity := .idle, job := none, timer := none, decimation := 0 } ∧ t.xpoint[c] = .none
  lane : ∀ k : LaneNo, (∀ c h, s.lanes[k].connected = some c → s.chans[c].job = some h → ¬ own h) → t.lanes[k] = s.lanes[k]
  freed : ∀ (k : LaneNo) (c : ChannelNo) (h : Handle), s.lanes[k].connected = some c → s.chans[c].job = some h → own h →
    t.lanes[k] = { s.lanes[k] with connected := none, qualifier := none }
  sublist : t.fifo.Sublist s.fifo
  fifo : ∀ h ∈ s.fifo, h ∈ t.fifo ↔ ¬ own h
  current : (∀ h, s.current = some h → ¬ own h) → t.current = s.current
  abandoned : ∀ h, s.current = some h → own h → t.current = none

theorem Stops.refl (s : State) : Stops (fun _ => False) s s :=
  ⟨fun _ _ => ⟨rfl, rfl⟩, nofun, fun _ _ => rfl, nofun, List.Sublist.refl _, fun _ hh => ⟨fun _ => id, fun _ => hh⟩, fun _ => rfl, nofun⟩

theorem Stops.congr {own own' : Handle → Prop} {s t : State} (h : Stops own s t) (same : ∀ g, own g ↔ own' g) : Stops own' s t := by
  obtain rfl : own = own' := funext fun g => propext (same g)
  exact h

theorem Stops.trans {own own' : Handle → Prop} {s t u : State} (h : Stops own s t) (h' : Stops own' t u) :
    Stops (fun g => own g ∨ own' g) s u := by
  refine ⟨fun c hc => ?_, fun c g hg hown => ?_, fun k hk => ?_, fun k c g hc hg hown => ?_, h'.sublist.trans h.sublist, fun g hg => ?_,
    fun hc => ?_, fun g hg hown => ?_⟩
  · obtain ⟨chan, entry⟩ := h.chan c fun g hg own => hc g hg (.inl own)
    obtain ⟨chan', entry'⟩ := h'.chan c fun g hg own => hc g (chan ▸ hg) (.inr own)
    exact ⟨chan'.trans chan, entry'.trans entry⟩
  · by_cases first : own g
    · obtain ⟨chan, entry⟩ := h.cut c g hg first
      obtain ⟨chan', entry'⟩ := h'.chan c fun g' hg' => by rw [chan] at hg'; cases hg'
      exact ⟨chan'.trans chan, entry'.trans entry⟩
    · obtain ⟨chan, -⟩ := h.chan c fun g' hg' => by cases hg.symm.trans hg'; exact first
      rw [← chan]
      exact h'.cut c g (chan ▸ hg) (hown.resolve_left first)
  · have same := h.lane k fun c g hc hg own => hk c g hc hg (.inl own)
    refine (h'.lane k fun c g hc hg own => ?_).trans same
    rw [same] at hc
    by_cases served : ∃ g', s.chans[c].job = some g'
    · obtain ⟨g', hg'⟩ := served
      obtain ⟨chan, -⟩ := h.chan c fun g' hg' own => hk c g' hc hg' (.inl own)
      exact hk c g hc (chan ▸ hg) (.inr own)
    · obtain ⟨chan, -⟩ := h.chan c fun g' hg' => absurd ⟨g', hg'⟩ served
      exact served ⟨g, chan ▸ hg⟩
  · by_cases first : own g
    · have cleared := h.freed k c g hc hg first
      refine (h'.lane k fun c' g' hc' => ?_).trans cleared
      rw [cleared] at hc'
      cases hc'
    · have chanOwn (g' : Handle) (hg' : s.chans[c].job = some g') : ¬ own g' := by cases hg.symm.trans hg'; exact first
      obtain ⟨chan, -⟩ := h.chan c chanOwn
      have same := h.lane k fun c' g' hc' hg' => by cases hc.symm.trans hc'; exact chanOwn g' hg'
      rw [← same]
      exact h'.freed k c g (same ▸ hc) (chan ▸ hg) (hown.resolve_left first)
  · rw [not_or, ← h.fifo g hg]
    exact ⟨fun member => ⟨h'.sublist.subset member, (h'.fifo g (h'.sublist.subset member)).mp member⟩,
      fun both => (h'.fifo g both.1).mpr both.2⟩
  · have same := h.current fun g hg own => hc g hg (.inl own)
    exact (h'.current fun g hg own => hc g (same ▸ hg) (.inr own)).trans same
  · by_cases first : own g
    · have gone := h.abandoned g hg first
      exact (h'.current fun g' hg' => by rw [gone] at hg'; cases hg').trans gone
    · have same := h.current fun g' hg' => by cases hg.symm.trans hg'; exact first
      exact h'.abandoned g (same ▸ hg) (hown.resolve_left first)

end Sys2Proof.JobProofs
end

section
namespace Sys2Proof.JobProofs

open Sys2Proof Sys2Proof.Machine Sys2Proof.LaneProofs

/-! ### One discard, by the state of its job (R59) -/

theorem Stops.of_same {own : Handle → Prop} {s t u : State} (h : Stops own s t) (chans : u.chans = t.chans) (xpoint : u.xpoint = t.xpoint)
    (lanes : u.lanes = t.lanes) (fifo : u.fifo = t.fifo) (current : u.current = t.current) : Stops own s u := by
  refine ⟨?_, ?_, ?_, ?_, ?_, ?_, ?_, ?_⟩
  · rw [chans, xpoint]
    exact h.chan
  · rw [chans, xpoint]
    exact h.cut
  · rw [lanes]
    exact h.lane
  · rw [lanes]
    exact h.freed
  · rw [fifo]
    exact h.sublist
  · rw [fifo]
    exact h.fifo
  · rw [current]
    exact h.current
  · rw [current]
    exact h.abandoned

section

variable {s : State} {i : SlotNo} {j : Job}

/-- Where no channel serves the job, only the FIFO and the Reduction Unit can refer to it. -/
theorem Stops.of_unserved {g : Handle} (unserved : ∀ c : ChannelNo, s.chans[c].job ≠ some g) {fifo : List Handle} {current : Option Handle}
    (sublist : fifo.Sublist s.fifo) (member : ∀ h ∈ s.fifo, h ∈ fifo ↔ h ≠ g) (other : s.current ≠ some g → current = s.current)
    (own : s.current = some g → current = none) : Stops (· = g) s { s with fifo := fifo, current := current } where
  chan _ _ := ⟨rfl, rfl⟩
  cut c _ hg same := absurd (same ▸ hg) (unserved c)
  lane _ _ := rfl
  freed _ c _ _ hg same := absurd (same ▸ hg) (unserved c)
  sublist := sublist
  fifo := member
  current none := other fun hg => none g hg rfl
  abandoned _ hg same := own (same ▸ hg)

variable (h : JobsBut nowhere s) (hj : s.jobAt i = some j)

include h hj

theorem acquiring_of_served {c : ChannelNo} (hc : s.chans[c].job = some (s.handleAt i)) : j.state = .acquiring ∧ j.channel = some c := by
  obtain ⟨j', here, acquiring, channel, -⟩ := h.served hc
  cases hj.symm.trans here
  exact ⟨acquiring, channel⟩

theorem waitReduce_of_queued (hm : s.handleAt i ∈ s.fifo) : j.state = .waitReduce := by
  obtain ⟨-, j', found, state⟩ := h.queued _ hm
  cases hj.symm.trans (lookup_eq_some.mp found).2
  exact state

theorem reducing_of_current (hc : s.current = some (s.handleAt i)) : j.state = .reducing := by
  obtain ⟨-, j', found, state⟩ := h.current _ hc
  cases hj.symm.trans (lookup_eq_some.mp found).2
  exact state

/-- The withdrawal of an ACQUIRING job stops its channel and frees its lane (R91). -/
theorem Stops.cutChannel (wired : Wired s) {c : ChannelNo} (hs : j.state = .acquiring) (served : s.chans[c].job = some (s.handleAt i)) :
    Stops (· = s.handleAt i) s (s.cutChannel c) := by
  have acquiring := wired.acquiring_of_job (c := c) (by rw [served]; nofun)
  obtain ⟨⟨mirror, -⟩, -, acquires, -⟩ := wired
  have only {d : ChannelNo} (hd : s.chans[d].job = some (s.handleAt i)) : c = d :=
    Option.some.inj ((acquiring_of_served h hj served).2.symm.trans (acquiring_of_served h hj hd).2)
  obtain ⟨⟨k, hk⟩, -⟩ := acquires c acquiring
  rw [cutChannel_of_lane hk]
  refine ⟨fun d hd => ?_, fun d g hg same => ?_, fun m hm => ?_, fun m d g hd hg same => ?_, List.Sublist.refl _, fun g hg => ?_,
    fun _ => rfl, fun g hg same => ?_⟩
  · have hcd : c ≠ d := fun same => hd _ (same ▸ served) rfl
    exact ⟨(getElem_set_fin s.chans c d _).trans (if_neg hcd), (getElem_set_fin s.xpoint c d _).trans (if_neg hcd)⟩
  · subst same
    obtain rfl := only hg
    exact ⟨(getElem_set_fin s.chans c c _).trans (if_pos rfl), (getElem_set_fin s.xpoint c c _).trans (if_pos rfl)⟩
  · refine (getElem_set_fin s.lanes k m _).trans (if_neg fun same => ?_)
    subst same
    exact hm c _ ((mirror k c).mpr hk) served rfl
  · subst same
    obtain rfl := only hg
    obtain rfl : k = m := Entry.lane.inj (hk.symm.trans ((mirror m c).mp hd))
    exact (getElem_set_fin s.lanes k k _).trans (if_pos rfl)
  · refine ⟨fun _ same => ?_, fun _ => hg⟩
    subst same
    cases hs.symm.trans (waitReduce_of_queued h hj hg)
  · subst same
    cases hs.symm.trans (reducing_of_current h hj hg)

theorem withdraw_stops (wired : Wired s) : Stops (· = s.handleAt i) s (s.withdraw i j) := by
  have unserved (hs : j.state ≠ .acquiring) (c : ChannelNo) : s.chans[c].job ≠ some (s.handleAt i) :=
    fun hc => hs (acquiring_of_served h hj hc).1
  have unqueued (hs : j.state ≠ .waitReduce) (g : Handle) (hg : g ∈ s.fifo) : g ∈ s.fifo ↔ g ≠ s.handleAt i :=
    ⟨fun _ same => hs (waitReduce_of_queued h hj (same ▸ hg)), fun _ => hg⟩
  have running (hs : j.state ≠ .reducing) (hc : s.current = some (s.handleAt i)) : s.current = none :=
    absurd (reducing_of_current h hj hc) hs
  have idle (hs : j.state = .queued ∨ j.state = .complete) : Stops (· = s.handleAt i) s s := by
    refine Stops.of_unserved (unserved ?_) (List.Sublist.refl _) (unqueued ?_) (fun _ => rfl) (running ?_)
    all_goals rcases hs with hs | hs <;> rw [hs] <;> nofun
  cases hs : j.state with
  | queued =>
    rw [State.withdraw, hs]
    exact idle (.inl hs)
  | complete =>
    rw [State.withdraw, hs]
    exact idle (.inr hs)
  | acquiring =>
    obtain ⟨acquiring, keeps⟩ := h.acquires i id j hj
    obtain ⟨c, hc⟩ := Option.isSome_iff_exists.mp (acquiring.mp hs)
    have served := (keeps c hc).1
    rw [withdraw_of_acquiring hs hc served]
    exact .cutChannel h hj wired hs served
  | waitReduce =>
    rw [withdraw_of_waitReduce hs]
    refine Stops.of_unserved (unserved (by rw [hs]; nofun)) List.filter_sublist (fun g hg => ?_) (fun _ => rfl)
      (running (by rw [hs]; nofun))
    rw [List.mem_filter, decide_eq_true_iff]
    exact and_iff_right hg
  | reducing =>
    have current := h.reduces i id j hj hs
    rw [State.withdraw, hs]
    dsimp only
    rw [if_pos current]
    exact Stops.of_unserved (unserved (by rw [hs]; nofun)) (List.Sublist.refl _) (unqueued (by rw [hs]; nofun))
      (fun other => absurd current other) fun _ => rfl

theorem discard_stops (wired : Wired s) : Stops (· = s.handleAt i) s (s.discard i) := by
  have withdrawn := withdraw_stops h hj wired
  obtain ⟨_, _, _, frame⟩ := ((s.withdraw i j).releasePages (s.handleAt i)).retire_frame i j
  obtain ⟨_, released⟩ := releasePages_frame (s.withdraw i j) (s.handleAt i)
  rw [discard_of_some hj, frame, released]
  exact withdrawn.of_same rfl rfl rfl rfl rfl

end

theorem discard_handleAt (s : State) {i m : SlotNo} (hm : m ≠ i) : (s.discard i).handleAt m = s.handleAt m := by
  cases hj : s.jobAt i with
  | none => rw [discard_of_none hj]
  | some j => exact handleAt_congr ((discard_discards hj).stays m fun same => hm (List.mem_singleton.mp same))

/-- Discards stop what served the jobs discarded, and nothing else. -/
theorem discardAll_stops {l : List SlotNo} (distinct : l.Nodup) : ∀ {s : State}, JobsBut nowhere s → Loose s → (∀ i ∈ l, s.jobAt i ≠ none) →
    Stops (fun g => g.slot ∈ l ∧ s.handleAt g.slot = g) s (l.foldl State.discard s) := by
  induction l with
  | nil => exact fun {s} _ _ _ => (Stops.refl s).congr fun g => ⟨False.elim, fun own => by cases own.1⟩
  | cons i l ih =>
    intro s h loose occupied
    obtain ⟨hi, distinct⟩ := List.nodup_cons.mp distinct
    obtain ⟨j, hj⟩ := Option.ne_none_iff_exists'.mp (occupied i List.mem_cons_self)
    have apart {m : SlotNo} (hm : m ∈ l) : m ≠ i := fun same => hi (same ▸ hm)
    have first := discard_stops h hj loose.1
    have rest := ih distinct (h.discard i) (discard_loose loose i) fun m hm => by
      rw [discard_jobAt, if_neg (apart hm).symm]
      exact occupied m (List.mem_cons_of_mem i hm)
    refine (first.trans rest).congr fun g => ⟨?_, fun ⟨member, handle⟩ => ?_⟩
    · rintro (rfl | ⟨member, handle⟩)
      · exact ⟨List.mem_cons_self, rfl⟩
      · exact ⟨List.mem_cons_of_mem i member, (discard_handleAt s (apart member)).symm.trans handle⟩
    · rcases List.mem_cons.mp member with slot | member
      · exact .inl (slot ▸ handle.symm)
      · exact .inr ⟨member, (discard_handleAt s (apart member)).trans handle⟩

end Sys2Proof.JobProofs
end

section
namespace Sys2Proof.JobProofs

open Sys2Proof Sys2Proof.Machine Sys2Proof.LaneProofs

/-! ### The jobs of a port -/

/-- The slots of the jobs of `q`, oldest first. -/
def ownJobs (s : State) (q : PortNo) : List SlotNo := s.oldestFirst fun _ j => decide (j.port = q)

/-- `h` names a job of `q`. -/
def Own (s : State) (q : PortNo) (h : Handle) : Prop := ∃ j, s.jobAt h.slot = some j ∧ s.table[h.slot].gen = h.gen ∧ j.port = q

theorem mem_ownJobs {s : State} {q : PortNo} {i : SlotNo} : i ∈ ownJobs s q ↔ ∃ j, s.jobAt i = some j ∧ j.port = q := by
  rw [ownJobs, mem_oldestFirst]
  simp only [decide_eq_true_iff]

theorem own_iff {s : State} {q : PortNo} {h : Handle} : Own s q h ↔ h.slot ∈ ownJobs s q ∧ s.handleAt h.slot = h := by
  rw [mem_ownJobs]
  constructor
  · rintro ⟨j, here, gen, port⟩
    exact ⟨⟨j, here, port⟩, handleAt_of_lookup (lookup_eq_some.mpr ⟨gen, here⟩)⟩
  · rintro ⟨⟨j, here, port⟩, handle⟩
    exact ⟨j, here, congrArg Handle.gen handle, port⟩

/-- What is counted among the jobs of `q` is counted in the table. -/
theorem countP_ownJobs (s : State) (q : PortNo) (sel : Job → Bool) :
    ((ownJobs s q).countP fun i => (s.jobAt i).any sel) = s.countJobs fun j => decide (j.port = q) && sel j := by
  have same : (ownJobs s q).Perm ((List.finRange 16).filter fun i => (s.jobAt i).any fun j => decide (j.port = q)) := by
    refine (List.perm_ext_iff_of_nodup (oldestFirst_nodup s _) ((List.nodup_finRange 16).filter _)).mpr fun i => mem_ownJobs.trans ?_
    rw [ List.mem_filter, Option.any_eq_true]
    simp only [List.mem_finRange, true_and, decide_eq_true_iff]
  rw [same.countP_eq, List.countP_filter, State.countJobs]
  refine List.countP_congr fun i _ => ?_
  cases s.jobAt i with
  | none => exact Iff.rfl
  | some j => rw [Option.any_some, Option.any_some, Option.any_some, Bool.and_comm]

theorem vector_ext_fin {α : Type} {n : Nat} {v w : Vector α n} (h : ∀ i : Fin n, v[i] = w[i]) : v = w :=
  Vector.ext fun i hi => h ⟨i, hi⟩

/-! ### What the Reduction Unit takes (R112) -/

theorem takeHead_unit {s : State} (idle : s.current = none) : s.takeHead.current = s.fifo.head? ∧ s.takeHead.fifo = s.fifo.tail := by
  cases hf : s.fifo with
  | nil =>
    rw [State.takeHead, idle, hf]
    exact ⟨idle, hf⟩
  | cons g r =>
    rw [takeHead_of_idle idle hf]
    obtain ⟨_, frame⟩ := State.modifyJob_frame { s with fifo := r, current := some g } g.slot fun j => { j with state := .reducing }
    rw [frame]
    exact ⟨rfl, rfl⟩

/-- A slot changes at most in that its job, at the head of the FIFO, becomes REDUCING. -/
theorem takeHead_table (s : State) (i : SlotNo) : s.takeHead.table[i] = s.table[i] ∨ ∃ g r j, s.current = none ∧ s.fifo = g :: r ∧
    g.slot = i ∧ s.jobAt i = some j ∧ s.takeHead.table[i] = ⟨s.table[i].gen, some { j with state := .reducing }⟩ := by
  cases hc : s.current with
  | some g => exact .inl (by rw [takeHead_of_busy hc])
  | none =>
    cases hf : s.fifo with
    | nil =>
      refine .inl ?_
      rw [State.takeHead, hc, hf]
    | cons g r =>
      let t : State := { s with fifo := r, current := some g }
      rw [takeHead_of_idle hc hf]
      by_cases hi : i = g.slot
      · subst hi
        cases hj : s.jobAt g.slot with
        | none =>
          have nobody : t.jobAt g.slot = none := hj
          refine .inl ?_
          rw [State.modifyJob, nobody]
        | some j => exact .inr ⟨g, r, j, rfl, rfl, rfl, rfl, modifyJob_slot (s := t) hj _⟩
      · exact .inl (modifyJob_other t _ hi)

/-! ### The port reset (R59, R157) -/

/-- What a port reset of `q` gives up from `s` to `u`. -/
def Discarded (s : State) (q : PortNo) (u : State) : Prop :=
  u.queues = s.queues.set q ⟨[], [], decide (q = 0) && s.ref.reflost⟩ ∧
    u.held = s.held.set q (s.held[q] - s.countJobs fun j => decide (j.port = q)) ∧
    (∀ x : SetNo, u.limits[x] = { s.limits[x] with
      references := s.limits[x].references - s.countJobs fun j => decide (j.port = q ∧ j.limitSet = some x) }) ∧
    (∀ g : PageNo, ((∃ h, s.pages[g] = some h ∧ Own s q h) → u.pages[g] = none) ∧
      ((∀ h, s.pages[g] = some h → ¬ Own s q h) → u.pages[g] = s.pages[g])) ∧
    (∀ i : SlotNo, ∀ j, s.jobAt i = some j → j.port = q → u.table[i] = ⟨s.table[i].gen + 1, none⟩) ∧
    { u with queues := s.queues, held := s.held, limits := s.limits, pages := s.pages, table := s.table, chans := s.chans,
             xpoint := s.xpoint, lanes := s.lanes, fifo := s.fifo, current := s.current } = s

theorem ownJobs_discards (s : State) (q : PortNo) : Discards s ((ownJobs s q).foldl State.discard s) (ownJobs s q) := by
  refine discardAll_discards (oldestFirst_nodup s _) fun i hi => ?_
  obtain ⟨j, hj, -⟩ := mem_ownJobs.mp hi
  rw [hj]
  nofun

theorem cleared_discarded (s : State) (q : PortNo) : Discarded s q (cleared s q) := by
  have slots (i : SlotNo) := takeHead_table (((ownJobs s q).foldl State.discard s).emptyQueue q) i
  obtain ⟨_, leaves, held, limits, releases, keeps⟩ := ownJobs_discards s q
  obtain ⟨_, _, _, frame⟩ := (((ownJobs s q).foldl State.discard s).emptyQueue q).takeHead_frame
  obtain ⟨_, _, _, _, _, _, _, _, _, dropped⟩ := State.discardAll_frame (ownJobs s q) s
  have reset : cleared s q = (((ownJobs s q).foldl State.discard s).emptyQueue q).takeHead := rfl
  rw [reset]
  rw [frame] at slots ⊢
  rw [dropped] at slots leaves held limits releases keeps ⊢
  refine ⟨rfl, vector_ext_fin fun p => ?_, fun x => ?_, fun g => ⟨?_, fun none => keeps g fun i hi here => none _ here ?_⟩, fun i j hj port => ?_,
    rfl⟩
  · refine (held p).trans ?_
    rw [getElem_set_fin, countP_ownJobs]
    by_cases hp : q = p
    · subst hp
      rw [if_pos rfl]
      simp only [Bool.and_self]
    · rw [if_neg hp]
      have nobody : (s.countJobs fun j => decide (j.port = q) && decide (j.port = p)) = 0 := by
        refine List.countP_eq_zero.mpr fun i _ any => ?_
        obtain ⟨j, -, both⟩ := (Option.any_eq_true _ _).mp any
        rw [Bool.and_eq_true, decide_eq_true_iff, decide_eq_true_iff] at both
        exact hp (both.1.symm.trans both.2)
      rw [nobody]
      rfl
  · refine (limits x).trans ?_
    rw [countP_ownJobs]
    simp only [Bool.decide_and]
  · rintro ⟨h, hg, own⟩
    obtain ⟨member, handle⟩ := own_iff.mp own
    exact releases g h.slot member (handle ▸ hg)
  · exact own_iff.mpr ⟨hi, rfl⟩
  · have member : i ∈ ownJobs s q := mem_ownJobs.mpr ⟨j, hj, port⟩
    rcases slots i with same | ⟨g, r, j', -, -, -, here, -⟩
    · exact same.trans (leaves i member)
    · cases (jobAt_eq (leaves i member)).symm.trans here

/-- What a port reset of `q` stops from `s` to `u`. -/
def Stopped (s : State) (q : PortNo) (u : State) : Prop :=
  (∀ i : SlotNo, (∀ j, s.jobAt i = some j → j.port ≠ q) → u.table[i] = s.table[i] ∨
    ∃ j, s.jobAt i = some j ∧ u.table[i] = ⟨s.table[i].gen, some { j with state := .reducing }⟩ ∧
      u.current = some (s.handleAt i) ∧ s.current ≠ u.current) ∧
  (∀ c : ChannelNo, (∀ h, s.chans[c].job = some h → ¬ Own s q h) → u.chans[c] = s.chans[c] ∧ u.xpoint[c] = s.xpoint[c]) ∧
  (∀ (c : ChannelNo) (h : Handle), s.chans[c].job = some h → Own s q h →
    u.chans[c] = { s.chans[c] with activity := .idle, job := none, timer := none, decimation := 0 } ∧ u.xpoint[c] = .none) ∧
  (∀ k : LaneNo, ((∃ c h, s.lanes[k].connected = some c ∧ s.chans[c].job = some h ∧ Own s q h) →
      u.lanes[k] = { s.lanes[k] with connected := none, qualifier := none }) ∧
    ((∀ c h, s.lanes[k].connected = some c → s.chans[c].job = some h → ¬ Own s q h) → u.lanes[k] = s.lanes[k])) ∧
  ∃ others : List Handle, others.Sublist s.fifo ∧ (∀ h ∈ s.fifo, h ∈ others ↔ ¬ Own s q h) ∧
    ((∀ h, s.current = some h → Own s q h) → u.current = others.head? ∧ u.fifo = others.tail) ∧
    (∀ h, s.current = some h → ¬ Own s q h → u.current = some h ∧ u.fifo = others)

theorem ownJobs_stops {s : State} (links : s.linksAgree) (jobs : s.jobsAgree) (q : PortNo) :
    Stops (Own s q) s ((ownJobs s q).foldl State.discard s) := by
  refine (discardAll_stops (oldestFirst_nodup s _) ((jobsAgree_iff s).mp jobs).1 (Loose.of_linksAgree links) fun i hi => ?_).congr
    fun g => own_iff.symm
  obtain ⟨j, hj, -⟩ := mem_ownJobs.mp hi
  rw [hj]
  nofun

theorem cleared_stopped {s : State} (links : s.linksAgree) (jobs : s.jobsAgree) (q : PortNo) : Stopped s q (cleared s q) := by
  obtain ⟨agree, -⟩ := (jobsAgree_iff s).mp jobs
  obtain ⟨chan, cut, lane, freed, sublist, fifo, current, abandoned⟩ := ownJobs_stops links jobs q
  have stays := (ownJobs_discards s q).stays
  let v := ((ownJobs s q).foldl State.discard s).emptyQueue q
  have sameChans : (cleared s q).chans = ((ownJobs s q).foldl State.discard s).chans := State.takeHead_chans v
  have sameXpoint : (cleared s q).xpoint = ((ownJobs s q).foldl State.discard s).xpoint := State.takeHead_xpoint v
  have sameLanes : (cleared s q).lanes = ((ownJobs s q).foldl State.discard s).lanes := State.takeHead_lanes v
  have idle (own : ∀ h, s.current = some h → Own s q h) : v.current = none := by
    cases hc : s.current with
    | none => exact (current fun h hh => by rw [hc] at hh; cases hh).trans hc
    | some h => exact abandoned h hc (own h hc)
  refine ⟨fun i hi => ?_, fun c hc => ?_, fun c h hc own => ?_, fun k => ⟨?_, fun none => ?_⟩, v.fifo, sublist, fifo, fun own => ?_,
    fun h hc other => ?_⟩
  · have unchanged : v.table[i] = s.table[i] := stays i fun member => by
      obtain ⟨j, hj, port⟩ := mem_ownJobs.mp member
      exact hi j hj port
    rcases takeHead_table v i with same | ⟨g, r, j, free, head, rfl, hj, slot⟩
    · exact .inl (same.trans unchanged)
    · rw [unchanged] at slot
      rw [jobAt_congr unchanged] at hj
      have waiting := agree.queued g (sublist.subset (by change g ∈ v.fifo; rw [head]; exact List.mem_cons_self))
      obtain ⟨-, j', found, waits⟩ := waiting
      have taken : (cleared s q).current = some g := (takeHead_unit free).1.trans (by rw [head]; rfl)
      refine .inr ⟨j, hj, slot, ?_, ?_⟩
      · rw [handleAt_of_lookup found]
        exact taken
      · rw [taken]
        intro running
        obtain ⟨-, k, named, reduces⟩ := agree.current g running
        cases named.symm.trans found
        cases reduces.symm.trans waits
  · rw [sameChans, sameXpoint]
    exact chan c hc
  · rw [sameChans, sameXpoint]
    exact cut c h hc own
  · rintro ⟨c, h, hc, hh, own⟩
    rw [sameLanes]
    exact freed k c h hc hh own
  · rw [sameLanes]
    exact lane k none
  · exact takeHead_unit (idle own)
  · have busy : v.current = some h := (current fun g hg => by cases hc.symm.trans hg; exact other).trans hc
    have same : cleared s q = v := takeHead_of_busy busy
    rw [same]
    exact ⟨busy, rfl⟩

/-- A port reset is what is given up and stopped, and where a channel stopped what follows from that (R59, R65, R76). -/
theorem portReset_eq (s : State) (q : PortNo) : s.portReset q =
    if (ownJobs s q).any (fun i => (s.jobAt i).any fun j => decide (j.state = .acquiring)) then (cleared s q).decided else cleared s q := by
  rw [← afterAcquisition_eq_decided]
  rfl

theorem stops_iff {s : State} {q : PortNo} : ((ownJobs s q).any fun i => (s.jobAt i).any fun j => decide (j.state = .acquiring)) = true ↔
    ∃ i j, s.jobAt i = some j ∧ j.port = q ∧ j.state = .acquiring := by
  rw [List.any_eq_true]
  constructor
  · rintro ⟨i, hi, any⟩
    obtain ⟨j, hj, port⟩ := mem_ownJobs.mp hi
    rw [hj, Option.any_some, decide_eq_true_iff] at any
    exact ⟨i, j, hj, port, any⟩
  · rintro ⟨i, j, hj, port, acquiring⟩
    refine ⟨i, mem_ownJobs.mpr ⟨j, hj, port⟩, ?_⟩
    rw [hj]
    exact decide_eq_true acquiring

theorem portReset_of_acquiring {s : State} {q : PortNo} (h : ∃ i j, s.jobAt i = some j ∧ j.port = q ∧ j.state = .acquiring) :
    s.portReset q = (cleared s q).decided := by
  rw [portReset_eq, if_pos (stops_iff.mpr h)]

theorem portReset_of_none {s : State} {q : PortNo} (h : ∀ i j, s.jobAt i = some j → j.port = q → j.state ≠ .acquiring) :
    s.portReset q = cleared s q := by
  rw [portReset_eq, if_neg]
  intro stops
  obtain ⟨i, j, hj, port, acquiring⟩ := stops_iff.mp stops
  exact h i j hj port acquiring

/-- Settles O60: the jobs of the port are discarded one after another, and each discard stops what served its job alone. -/
theorem portReset : Obligations.PortReset := by
  intro s q
  have reset : ∃ u, Discarded s q u ∧ (s.linksAgree → s.jobsAgree → Stopped s q u) ∧
      ((∃ i j, s.jobAt i = some j ∧ j.port = q ∧ j.state = .acquiring) → s.portReset q = u.decided) ∧
      ((∀ i j, s.jobAt i = some j → j.port = q → j.state ≠ .acquiring) → s.portReset q = u) :=
    ⟨cleared s q, cleared_discarded s q, fun links jobs => cleared_stopped links jobs q, portReset_of_acquiring, portReset_of_none⟩
  refine ⟨⟨s.portReset q, takes_of_run (run := fun _ => succeed (s.portReset q)) rfl (by simp) rfl rfl, reset⟩,
    ⟨s.portReset q, takes_of_run rfl (by simp) rfl ?_, reset⟩, fun b hb => takes_of_run rfl (by simp) rfl ?_⟩
  · rw [resetPort, byteAt_cons_zero, named_eq_some (toNat_ofNat_fin (by decide) q)]
    rfl
  · rw [resetPort, byteAt_cons_zero, named_eq_none hb]
    rfl

end Sys2Proof.JobProofs
end

section
namespace Sys2Proof.ArbiterProofs

open Sys2Proof Sys2Proof.Machine Sys2Proof.LaneProofs Sys2Proof.JobProofs

/-! ### Where a decision stops (R63 to R65) -/

/-- Where grants are not possible at all, no job is granted next (R63). -/
theorem nextJob_of_closed {s : State} (closed : s.ref.state ≠ .locked ∨ s.ref.reflost = true ∨ s.hold ≠ .running) : s.nextJob = none := by
  refine Option.eq_none_iff_forall_ne_some.mpr fun (i, j) next => ?_
  obtain ⟨-, locked, clear, running, -⟩ := eligible_iff.mp (nextJob_eligible next).2
  rcases closed with h | h | h
  · exact h locked
  · cases h.symm.trans clear
  · exact h running

/-- As many grants as there are free channels use up the channels or the jobs. -/
theorem arbitrateUpTo_exhausts (n : Nat) {s : State} (h : freeCount s ≤ n) :
    (State.arbitrateUpTo n s).freeChannel = none ∨ (State.arbitrateUpTo n s).nextJob = none := by
  induction n generalizing s with
  | zero => exact .inl (freeChannel_eq_none (Nat.le_zero.mp h))
  | succ n ih =>
    cases hc : s.freeChannel with
    | none => rw [arbitrateUpTo_of_none (.inl hc)]; exact .inl hc
    | some c =>
      cases hj : s.nextJob with
      | none => rw [arbitrateUpTo_of_none (.inr hj)]; exact .inr hj
      | some x =>
        obtain ⟨i, j⟩ := x
        have fewer := freeCount_grant hc i j
        rw [arbitrateUpTo_of_some hc hj]
        exact ih (by omega)

theorem arbitrate_exhausts (s : State) : s.arbitrate.freeChannel = none ∨ s.arbitrate.nextJob = none :=
  arbitrateUpTo_exhausts 4 List.countP_le_length

theorem not_free_of_freeChannel {s : State} (nobody : s.freeChannel = none) (c : ChannelNo) :
    ¬ (s.service[c] = .inService ∧ s.chans[c].activity = .idle) := fun free =>
  List.find?_eq_none.mp nobody c (List.mem_finRange c) (channelFree_iff.mpr free)

/-- Settles O37: with grants closed no job is next, and each grant takes one of at most four free channels. -/
theorem decisionRuns : Obligations.DecisionRuns :=
  ⟨fun _ closed => arbitrateUpTo_of_none (.inr (nextJob_of_closed closed)) 4,
    fun s => (arbitrate_exhausts s).imp not_free_of_freeChannel fun next _ _ => not_eligible_of_nextJob next,
    fun _ _ => eligible_iff⟩

end Sys2Proof.ArbiterProofs
end

section
namespace Sys2Proof.ArbiterProofs

open Sys2Proof Sys2Proof.Machine Sys2Proof.LaneProofs

/-! ### WRITE FLOOR and WRITE PROFILE (R69, R70) -/

theorem writeFloor_bad {s : State} {v : Byte} (h : 4 < v.toNat) : writeFloor s [v] = refuse .badValue s := by
  rw [writeFloor, byteAt_cons_zero, if_pos h]

theorem writeFloor_raised {s : State} {v : Byte} (h : v.toNat ≤ 4) (raised : s.floor ≤ v.toNat) :
    writeFloor s [v] = succeed { s with floor := v.toNat } := by
  rw [writeFloor, byteAt_cons_zero, if_neg (Nat.not_lt.mpr h), if_neg (Nat.not_lt.mpr raised)]

theorem writeFloor_lowered {s : State} {v : Byte} (h : v.toNat ≤ 4) (lowered : v.toNat < s.floor) :
    writeFloor s [v] = succeed ({ s with floor := v.toNat } : State).arbitrate := by
  rw [writeFloor, byteAt_cons_zero, if_neg (Nat.not_lt.mpr h), if_pos lowered]

/-- WRITE PROFILE with a payload that names a port. -/
theorem writeProfile_named {s : State} {a c q : Byte} {p : PortNo} (port : a.toNat = p.val) :
    writeProfile s [a, c, q] = if 3 < c.toNat ∨ 16 < q.toNat then refuse .badValue s
      else succeed { s with profiles := s.profiles.set p ⟨c.toNat, q.toNat⟩ } := by
  rw [writeProfile, byteAt_cons_zero, named_eq_some port, byteAt_cons_succ, byteAt_cons_zero, byteAt_cons_succ, byteAt_cons_succ,
    byteAt_cons_zero]

theorem writeProfile_bad {s : State} {a c q : Byte} (h : 3 < a.toNat ∨ 3 < c.toNat ∨ 16 < q.toNat) :
    writeProfile s [a, c, q] = refuse .badValue s := by
  by_cases ha : 3 < a.toNat
  · rw [writeProfile, byteAt_cons_zero, named_eq_none ha]
  · rw [writeProfile_named (p := ⟨a.toNat, by omega⟩) rfl, if_pos (h.resolve_left ha)]

/-! ### WRITE SERVICE (R72) -/

theorem writableServiceOf_eq_none {v : Nat} (h : 1 < v) : writableServiceOf v = none := by
  rw [writableServiceOf, if_neg (by omega), if_neg (by omega)]

theorem writeService_bad {s : State} {a v : Byte} (h : 3 < a.toNat ∨ 1 < v.toNat) : writeService s [a, v] = refuse .badValue s := by
  rw [writeService, byteAt_cons_zero, byteAt_cons_succ, byteAt_cons_zero]
  rcases h with h | h
  · rw [named_eq_none h]
  · rw [writableServiceOf_eq_none h]
    cases named 4 a.toNat <;> rfl

section

variable {s : State} {a v : Byte} {c : ChannelNo} {x : Service}

/-- WRITE SERVICE with a payload that names a channel and a state. -/
theorem writeService_good (channel : a.toNat = c.val) (state : writableServiceOf v.toNat = some x) :
    writeService s [a, v] = if s.verif.running ∧ s.verif.selects c then refuse .checkRunning s
      else if x = .inService ∧ s.service[c] ≠ .inService then succeed (s.setService c x).arbitrate
      else succeed (s.setService c x) := by
  rw [writeService, byteAt_cons_zero, byteAt_cons_succ, byteAt_cons_zero, named_eq_some channel, state]

theorem writeService_checkRunning (channel : a.toNat = c.val) (writable : v.toNat ≤ 1) (running : s.verif.running = true)
    (selected : s.verif.mask.getLsbD c.val = true) : writeService s [a, v] = refuse .checkRunning s := by
  obtain ⟨x, state⟩ : ∃ x, writableServiceOf v.toNat = some x := by
    obtain h | h : v.toNat = 0 ∨ v.toNat = 1 := by omega
    · exact ⟨.inService, by rw [h]; rfl⟩
    · exact ⟨.outOfService, by rw [h]; rfl⟩
  rw [writeService_good channel state, if_pos ⟨running, selected⟩]

/-- WRITE SERVICE of a channel that no running check has. -/
theorem writeService_unchecked (channel : a.toNat = c.val) (state : writableServiceOf v.toNat = some x)
    (unchecked : s.verif.running = false ∨ s.verif.mask.getLsbD c.val = false) :
    writeService s [a, v] = succeed (if x = .inService ∧ s.service[c] ≠ .inService then (s.setService c x).arbitrate
      else s.setService c x) := by
  rw [writeService_good channel state, if_neg, apply_ite succeed]
  rintro ⟨running, selected⟩
  rcases unchecked with h | h
  · cases h.symm.trans running
  · cases h.symm.trans selected

end

theorem setService_self {s : State} {c : ChannelNo} {x : Service} (h : s.service[c] = x) : s.setService c x = s := by
  subst h
  rw [State.setService]
  exact congrArg (fun service => ({ s with service := service } : State)) (Vector.set_getElem_self _)

/-- Settles O40, by the refusals of the three rules in their order and the cases of what they write. -/
theorem arbiterSettings : Obligations.ArbiterSettings := by
  refine ⟨fun s v => ⟨fun h => ?_, fun h raised => ?_, fun h lowered => ?_⟩,
    fun s a c q => ⟨fun h => ?_, fun p port ceiling quota => ?_⟩,
    fun s a v => ⟨fun h => ?_, fun c channel => ⟨fun writable running selected => ?_, fun unchecked =>
      ⟨fun out => ?_, fun same kept => ?_, fun back changed => ?_⟩⟩⟩⟩
  · exact takes_of_run rfl (by simp) rfl (writeFloor_bad h)
  · exact takes_of_run rfl (by simp) rfl (writeFloor_raised h raised)
  · exact takes_of_run rfl (by simp) rfl (writeFloor_lowered h lowered)
  · exact takes_of_run rfl (by simp) rfl (writeProfile_bad h)
  · refine takes_of_run rfl (by simp) rfl ((writeProfile_named port).trans ?_)
    rw [if_neg (by omega)]
    rfl
  · exact takes_of_run rfl (by simp) rfl (writeService_bad h)
  · exact takes_of_run rfl (by simp) rfl (writeService_checkRunning channel writable running selected)
  · subst out
    exact takes_of_run rfl (by simp) rfl (writeService_unchecked (x := .outOfService) channel rfl unchecked)
  · subst same
    refine takes_of_run rfl (by simp) rfl ((writeService_unchecked (x := .inService) channel rfl unchecked).trans ?_)
    rw [if_neg fun h => h.2 kept, setService_self kept]
    rfl
  · subst back
    refine takes_of_run rfl (by simp) rfl ((writeService_unchecked (x := .inService) channel rfl unchecked).trans ?_)
    rw [if_pos ⟨rfl, changed⟩]
    rfl

end Sys2Proof.ArbiterProofs
end

section
namespace Sys2Proof.ArbiterProofs

open Sys2Proof Sys2Proof.Machine Sys2Proof.LaneProofs

/-! ### The table of R75, and RELEASE (R77) -/

section

variable {s : State}

theorem heldBy_of_quiet (running : s.hold = .running) (quiet : ∀ c : ChannelNo, s.chans[c].activity ≠ .acquiring) :
    s.heldBy = .active := by
  rw [State.heldBy, running, anyAcquiring_eq_false_iff.mpr quiet]
  rfl

theorem heldBy_of_acquiring (running : s.hold = .running) (busy : ∃ c : ChannelNo, s.chans[c].activity = .acquiring) :
    s.heldBy = .pending := by
  rw [State.heldBy, running, anyAcquiring_iff.mpr busy]
  rfl

/-- A HOLD leaves a hold that stands already as it is. -/
theorem heldBy_of_held (held : s.hold ≠ .running) : s.heldBy = s.hold := by
  rw [State.heldBy]
  cases h : s.hold with
  | running => exact absurd h held
  | pending => rfl
  | active => rfl

theorem release_nothingHeld (running : s.hold = .running) : release s = refuse .nothingHeld s := by
  rw [release, if_pos running]

theorem release_checkRunning (held : s.hold ≠ .running) (check : s.verif.running = true) : release s = refuse .checkRunning s := by
  rw [release, if_neg held, if_pos check]

theorem release_success (held : s.hold ≠ .running) (idle : s.verif.running = false) :
    release s = succeed ({ s with hold := .running } : State).arbitrate := by
  rw [release, if_neg held, if_neg (by simp [idle])]

end

/-- A HOLD on P0 is taken with the hold state that the table gives. -/
theorem hold_takes {s : State} {h : HoldState} (table : s.heldBy = h) :
    s.takes .hold 0x29 0 [] { s with hold := h } .success [] :=
  takes_of_run (run := fun _ => succeed { s with hold := s.heldBy }) rfl (by simp) rfl (by rw [table]; rfl)

/-- A RELEASE on P0 is taken with what its rule answers. -/
theorem release_takes {s t : State} {status : Status} (answers : release s = .answer status [] t) :
    s.takes .release 0x2A 0 [] t status [] :=
  takes_of_run (run := fun _ => release s) rfl (by simp) rfl answers

/-- Settles O41, by the rows of the table of R75 and the refusals of R77 in their order. -/
theorem holdAndRelease : Obligations.HoldAndRelease := fun _ =>
  ⟨fun running quiet => hold_takes (heldBy_of_quiet running quiet),
    fun running busy => hold_takes (heldBy_of_acquiring running busy),
    fun held => hold_takes (heldBy_of_held held),
    fun running => release_takes (release_nothingHeld running),
    fun held check => release_takes (release_checkRunning held check),
    fun held idle => release_takes (release_success held idle)⟩

end Sys2Proof.ArbiterProofs
end

section
namespace Sys2Proof.SampleProofs

open Sys2Proof Sys2Proof.Machine

/-! ### Operations that leave Sample Memory alone -/

section

variable (s : State)

@[simp] theorem modifyJob_mem (i : SlotNo) (f : Job → Job) : (s.modifyJob i f).mem = s.mem := by
  obtain ⟨_, h⟩ := s.modifyJob_frame i f
  rw [h]

@[simp] theorem withdraw_mem (i : SlotNo) (j : Job) : (s.withdraw i j).mem = s.mem := by
  obtain ⟨_, _, _, _, _, h⟩ := s.withdraw_frame i j
  rw [h]

@[simp] theorem completeAll_mem (o : EndOutcome) (l : List SlotNo) : (s.completeAll o l).mem = s.mem := by
  obtain ⟨_, _, _, _, _, h⟩ := State.completeAll_frame o l s
  rw [h]

@[simp] theorem addReference_mem (x : Option SetNo) : (s.addReference x).mem = s.mem := by
  obtain ⟨_, h⟩ := s.addReference_frame x
  rw [h]

@[simp] theorem admitWaiting_mem (p : PortNo) (w : List Waiting) : (s.admitWaiting p w).mem = s.mem := by
  obtain ⟨_, _, _, _, h⟩ := s.admitWaiting_frame p w
  rw [h]

@[simp] theorem endFill_mem (o : EndOutcome) : (s.endFill o).mem = s.mem := by
  obtain ⟨_, _, h⟩ := s.endFill_frame o
  rw [h]

theorem stopChannels_mem (l : List ChannelNo) : (l.foldl State.stopChannel s).mem = s.mem := by
  induction l generalizing s with
  | nil => rfl
  | cons c l ih => exact (ih (s.stopChannel c)).trans (s.stopChannel_mem c)

@[simp] theorem endAcquisitions_mem : s.endAcquisitions.mem = s.mem :=
  (completeAll_mem _ _ _).trans (stopChannels_mem s _)

@[simp] theorem endCheckIfRunning_mem : s.endCheckIfRunning.mem = s.mem := by
  unfold State.endCheckIfRunning
  split
  · exact s.endCheck_mem .refLost
  · rfl

@[simp] theorem dropHead_mem (p : PortNo) (rest : List Record) : (s.dropHead p rest).mem = s.mem := admitWaiting_mem _ p _

@[simp] theorem accept_mem (p : PortNo) (i : SlotNo) (j : Job) : (s.accept p i j).mem = s.mem := addReference_mem _ j.limitSet

@[simp] theorem visitLane_mem (k : LaneNo) : (s.visitLane k).mem = s.mem := by
  unfold State.visitLane
  split
  · exact State.rewriteLane_mem _ k _
  · rfl

@[simp] theorem cancelJob_mem (i : SlotNo) (j : Job) : (s.cancelJob i j).mem = s.mem := by
  unfold State.cancelJob
  dsimp only
  split <;> simp

@[simp] theorem completeReduction_mem (i : SlotNo) (j : Job) : (s.completeReduction i j).mem = s.mem :=
  (State.takeHead_mem _).trans (State.completeJob_mem _ i .done _)

@[simp] theorem countRunt_mem (k : LaneNo) : (s.countRunt k).mem = s.mem := by
  unfold State.countRunt
  split
  · exact modifyJob_mem s _ _
  · rfl

@[simp] theorem inputChanges_mem (k : LaneNo) : (s.inputChanges k).mem = s.mem := by
  unfold State.inputChanges
  dsimp only
  split
  · rfl
  · split
    · exact countRunt_mem _ k
    · rfl

/-! ### Events that leave Sample Memory alone -/

@[simp] theorem referenceLocks_mem : s.referenceLocks.mem = s.mem := by
  unfold State.referenceLocks
  split
  · exact State.arbitrate_mem _
  · rfl

@[simp] theorem timerExpires_mem (c : ChannelNo) : (s.timerExpires c).mem = s.mem := by
  unfold State.timerExpires
  split
  · split
    · simp
    · rfl
  · rfl

@[simp] theorem calEdgeComes_mem (e0 e1 e2 e3 : Int) : (s.calEdgeComes e0 e1 e2 e3).mem = s.mem := by
  unfold State.calEdgeComes
  split
  · dsimp only
    split
    · exact (State.arbitrate_mem _).trans (State.endCheck_mem _ .done)
    · rfl
  · rfl

@[simp] theorem loseReference_mem : s.loseReference.mem = s.mem :=
  (State.afterAcquisition_mem _).trans ((endCheckIfRunning_mem _).trans (endAcquisitions_mem _))

@[simp] theorem absenceComes_mem : s.absenceComes.mem = s.mem := by
  unfold State.absenceComes State.absenceExpires
  split
  · dsimp only
    split
    · rfl
    · rfl
    · exact loseReference_mem _
  · rfl

@[simp] theorem refinRises_mem : s.refinRises.mem = s.mem := by
  unfold State.refinRises
  dsimp only
  split <;> rfl

@[simp] theorem lineTimeAdvances_mem : s.lineTimeAdvances.mem = s.mem := by
  unfold State.lineTimeAdvances
  split <;> rfl

@[simp] theorem lineTimeRcAdvances_mem : s.lineTimeRcAdvances.mem = s.mem := by
  unfold State.lineTimeRcAdvances
  split <;> rfl

end

/-! ### The one write: a timestamp (R86) -/

/-- `m'` is `m`, or `m` with one word written that exists (R95). -/
def WritesAtMostOne (m m' : Memory) : Prop := m' = m ∨ ∃ a w, a < Config.memoryWords ∧ m' = m.write a w

theorem WritesAtMostOne.wf {m m' : Memory} (h : WritesAtMostOne m m') (canonical : m.wf) : m'.wf := by
  obtain rfl | ⟨a, w, inside, rfl⟩ := h
  · exact canonical
  · exact Memory.wf_write m a w canonical inside

section

variable {s t : State} {c : ChannelNo}

theorem writeTimestamp_mem (h : Handle) (u : Timestamp) :
    (s.writeTimestamp c h u).mem = s.mem.write (s.chans[c].baseWord + s.chans[c].captured) u := modifyJob_mem _ h.slot _

theorem finishAcquisition_mem (h : Handle) : (s.finishAcquisition c h).mem = s.mem :=
  (State.afterAcquisition_mem _).trans ((State.takeHead_mem _).trans ((modifyJob_mem _ _ _).trans (s.stopChannel_mem c)))

theorem stamp_mem {h : Handle} {u : Timestamp} (ht : s.stamp c h u = .next t) :
    s.chans[c].baseWord + s.chans[c].captured < Config.memoryWords ∧
      t.mem = s.mem.write (s.chans[c].baseWord + s.chans[c].captured) u := by
  unfold State.stamp at ht
  dsimp only at ht
  split at ht
  · cases ht
  · refine ⟨Nat.not_le.mp ‹_›, ?_⟩
    split at ht <;> cases ht
    · exact (finishAcquisition_mem h).trans (writeTimestamp_mem h u)
    · exact writeTimestamp_mem h u

theorem takeEdge_mem {h : Handle} {k : LaneNo} {u : Timestamp} (ht : s.takeEdge c h k u = .next t) : WritesAtMostOne s.mem t.mem := by
  unfold State.takeEdge at ht
  dsimp only at ht
  split at ht
  · obtain ⟨inside, written⟩ := stamp_mem ht
    exact .inr ⟨_, u, inside, written⟩
  · cases ht
    exact .inl rfl

theorem edgeComes_mem {fine : Fine} (ht : s.edgeComes c fine = .next t) : WritesAtMostOne s.mem t.mem := by
  unfold State.edgeComes at ht
  dsimp only at ht
  split at ht
  · split at ht
    · have written := takeEdge_mem ht
      rwa [State.setLane_mem] at written
    · cases ht
      exact .inl rfl
  · cases ht
    exact .inl rfl

/-- Only an edge can write a word (R86). -/
theorem take_mem (e : TimedEvent) (ht : e.take s = .next t) : WritesAtMostOne s.mem t.mem := by
  cases e with
  | edge c fine => exact edgeComes_mem ht
  | lock => cases ht; exact .inl (referenceLocks_mem s)
  | starvation c => cases ht; exact .inl (timerExpires_mem s c)
  | calEdge => cases ht; exact .inl (calEdgeComes_mem s _ _ _ _)
  | rcLineTime => cases ht; exact .inl (lineTimeRcAdvances_mem s)
  | absence => cases ht; exact .inl (absenceComes_mem s)
  | lineTime => cases ht; exact .inl (lineTimeAdvances_mem s)

/-- A due event, taken anywhere in a run, keeps the canonical form. -/
theorem take_memoryCanonical (e : TimedEvent) (s t : State) (ht : e.take s = .next t) (h : s.memoryCanonical) : t.memoryCanonical :=
  (take_mem e ht).wf h

/-- A command's own event, after what is due before its place. -/
theorem afterPassTo_memoryCanonical {place : Fine} {f : State → Host.Outcome State Fault Refusal}
    (ht : andThen (s.passTo place) f = .next t) (h : s.memoryCanonical)
    (own : ∀ u, f u = .next t → WritesAtMostOne u.mem t.mem) : t.memoryCanonical := by
  obtain ⟨u, hu, hf⟩ := andThen_eq_next.mp ht
  have passed : u.memoryCanonical :=
    State.passTo_keeps (P := State.memoryCanonical) (fun _ _ h => h) (fun e _ => take_memoryCanonical e.2) hu h
  exact (own u hf).wf passed

/-- The same for an event that writes no word and can come only where `due` holds. -/
theorem timedCommand_memoryCanonical {due : Prop} [Decidable due] {place : Fine} {f : State → State}
    (ht : (if due then andThen (s.passTo place) fun u => .next (f u) else .next s) = .next t) (h : s.memoryCanonical)
    (own : ∀ u, (f u).mem = u.mem) : t.memoryCanonical := by
  split at ht
  · exact afterPassTo_memoryCanonical ht h fun u hf => by cases hf; exact .inl (own u)
  · cases ht
    exact h

theorem idle_memoryCanonical (ht : s.idle = .next t) (h : s.memoryCanonical) : t.memoryCanonical :=
  State.idle_keeps (P := State.memoryCanonical) take_memoryCanonical (fun _ _ h => h)
    (fun u h => by rwa [State.memoryCanonical, State.tick_mem]) ht h

end

end Sys2Proof.SampleProofs
end

section
namespace Sys2Proof.SampleProofs

open Sys2Proof Sys2Proof.Machine Sys2Proof.LaneProofs Sys2Proof.JobProofs

/-! ### Requests leave Sample Memory alone -/

/-- A reply leaves Sample Memory as `s` has it. -/
abbrev LeavesMemory (s : State) : Reply → Prop := Leaves fun u => u.mem = s.mem

section

variable (s : State) (p : PortNo) (payload : List Byte)

theorem writeFloor_leavesMemory : LeavesMemory s (writeFloor s payload) := by
  unfold writeFloor
  dsimp only
  split
  · rfl
  · split
    · exact State.arbitrate_mem _
    · rfl

theorem writeProfile_leavesMemory : LeavesMemory s (writeProfile s payload) := by
  unfold writeProfile
  split
  · rfl
  · split <;> rfl

theorem writeService_leavesMemory : LeavesMemory s (writeService s payload) := by
  unfold writeService
  split
  · split
    · rfl
    · split
      · exact State.arbitrate_mem _
      · rfl
  · rfl

theorem release_leavesMemory : LeavesMemory s (release s) := by
  unfold release
  split
  · rfl
  · split
    · rfl
    · exact State.arbitrate_mem _

theorem takeCompletion_leavesMemory : LeavesMemory s (Machine.takeCompletion s p) := by
  unfold Machine.takeCompletion
  split
  · rfl
  · exact dropHead_mem s p _

theorem clearReflost_leavesMemory : LeavesMemory s (clearReflost s) := by
  unfold clearReflost
  split
  · rfl
  · split
    · exact State.arbitrate_mem _
    · rfl

theorem checkChannels_leavesMemory : LeavesMemory s (checkChannels s payload) := by
  unfold checkChannels
  dsimp only
  split_ifs <;> rfl

theorem stopCheck_leavesMemory : LeavesMemory s (stopCheck s) := by
  unfold stopCheck
  split
  · exact (State.arbitrate_mem _).trans (s.endCheck_mem .stopped)
  · rfl

theorem writeLane_leavesMemory : LeavesMemory s (Machine.writeLane s payload) := by
  unfold Machine.writeLane
  split
  · split
    · rfl
    · split
      · rfl
      · exact s.rewriteLane_mem _ _
  · rfl

theorem fillLanes_leavesMemory : LeavesMemory s (fillLanes s payload) := by
  unfold fillLanes
  dsimp only
  split
  · split_ifs <;> rfl
  · rfl

theorem stopFill_leavesMemory : LeavesMemory s (stopFill s) := by
  unfold stopFill
  split
  · exact endFill_mem s .stopped
  · rfl

theorem submit_leavesMemory : LeavesMemory s (Machine.submit s p payload) := by
  unfold Machine.submit
  split
  · rfl
  · exact (State.arbitrate_mem _).trans (accept_mem s p _ _)

theorem cancel_leavesMemory : LeavesMemory s (Machine.cancel s p payload) := by
  unfold Machine.cancel
  split
  · rfl
  · split
    · rfl
    · split
      · rfl
      · exact cancelJob_mem s _ _

theorem writeLimit_leavesMemory : LeavesMemory s (writeLimit s payload) := by
  unfold writeLimit
  split
  · split
    · rfl
    · split <;> rfl
  · rfl

theorem freeze_leavesMemory : LeavesMemory s (freeze s payload) := by
  unfold freeze
  split
  · rfl
  · split <;> rfl

theorem thaw_leavesMemory : LeavesMemory s (thaw s payload) := by
  unfold thaw
  split
  · rfl
  · split
    · rfl
    · rfl
    · split <;> rfl

theorem resetPort_leavesMemory : LeavesMemory s (resetPort s payload) := by
  unfold resetPort
  split
  · rfl
  · exact s.portReset_mem _

theorem writeWindow_leavesMemory : LeavesMemory s (writeWindow s payload) := by
  unfold writeWindow
  split
  · dsimp only
    split <;> rfl
  · rfl

end

/-! ### Every command, and every step -/

section

variable {s t : State}

/-- A request whose own rule leaves Sample Memory alone does so too: framing is no part of it. -/
theorem request_mem {p : PortNo} {code : Byte} {bytes : List Byte} {run : List Byte → Reply}
    (ht : request p code bytes s run = .next t) (rule : ∀ payload, LeavesMemory s (run payload)) : t.mem = s.mem := by
  obtain rfl | rfl | ⟨_, _, rfl⟩ | ⟨payload, -, -, _, _, u, answers, rfl⟩ := request_next ht
  · rfl
  · rfl
  · rfl
  · have left := rule payload
    rw [answers] at left
    exact left

theorem fillVisit_mem (ht : execFillVisit s = .next t) : t.mem = s.mem := by
  unfold execFillVisit at ht
  split at ht
  · split at ht
    · split at ht <;> cases ht
      · exact (endFill_mem _ .done).trans (visitLane_mem s _)
      · exact visitLane_mem s _
    · cases ht
      rfl
  · cases ht
    rfl

theorem reductionComplete_mem (ht : execReductionComplete s = .next t) : t.mem = s.mem := by
  unfold execReductionComplete at ht
  split at ht
  · cases ht
    rfl
  · split at ht <;> cases ht
    exact completeReduction_mem s _ _

/-- Every command keeps the canonical form: a request, a fill visit and a reduction write no word, a command with an instant lets edges
come that write one each, and a power-on reset empties the memory. -/
theorem exec_memoryCanonical (i : Instr) (ht : exec i s = .next t) (h : s.memoryCanonical) : t.memoryCanonical := by
  have kept (same : t.mem = s.mem) : t.memoryCanonical := by rwa [State.memoryCanonical, same]
  cases i with
  | selectAsserted p =>
    change execSelectAsserted p s = _ at ht
    unfold execSelectAsserted at ht
    split at ht
    · cases ht; exact h
    · split at ht <;> cases ht <;> exact h
  | selectReleased p => cases ht; exact h
  | lastResponseByteClockedOut p =>
    change execLastResponseByteClockedOut p s = _ at ht
    unfold execLastResponseByteClockedOut at ht
    split at ht <;> cases ht <;> exact h
  | unknownRequest p code bytes => exact kept (request_mem (show execUnknownRequest p code bytes s = .next t from ht) fun _ => rfl)
  | submit p bytes => exact kept (request_mem ht (submit_leavesMemory s p))
  | cancel p bytes => exact kept (request_mem ht (cancel_leavesMemory s p))
  | readJob p bytes => exact kept (request_mem ht (leaves_readJob (P := fun u => u.mem = s.mem) rfl p))
  | takeCompletion p bytes => exact kept (request_mem ht fun _ => takeCompletion_leavesMemory s p)
  | readStatus p bytes => exact kept (request_mem (show execReadStatus p bytes s = .next t from ht) fun _ => rfl)
  | readSamples p bytes => exact kept (request_mem ht (leaves_readSamples (P := fun u => u.mem = s.mem) rfl p))
  | readLane p bytes => exact kept (request_mem ht (leaves_readLane rfl))
  | readLimits p bytes => exact kept (request_mem ht (leaves_readLimits rfl))
  | readChannel p bytes => exact kept (request_mem ht (leaves_readChannel rfl))
  | readReference p bytes => exact kept (request_mem (show execReadReference p bytes s = .next t from ht) fun _ => rfl)
  | resetOwnPort p bytes => exact kept (request_mem (show execResetOwnPort p bytes s = .next t from ht) fun _ => s.portReset_mem p)
  | resetPort p bytes => exact kept (request_mem ht (resetPort_leavesMemory s))
  | writeLane p bytes => exact kept (request_mem ht (writeLane_leavesMemory s))
  | fillLanes p bytes => exact kept (request_mem ht (fillLanes_leavesMemory s))
  | fillVisit => exact kept (fillVisit_mem ht)
  | stopFill p bytes => exact kept (request_mem ht fun _ => stopFill_leavesMemory s)
  | writeWindow p bytes => exact kept (request_mem ht (writeWindow_leavesMemory s))
  | writeProfile p bytes => exact kept (request_mem ht (writeProfile_leavesMemory s))
  | writeFloor p bytes => exact kept (request_mem ht (writeFloor_leavesMemory s))
  | writeLimit p bytes => exact kept (request_mem ht (writeLimit_leavesMemory s))
  | freeze p bytes => exact kept (request_mem ht (freeze_leavesMemory s))
  | thaw p bytes => exact kept (request_mem ht (thaw_leavesMemory s))
  | hold p bytes => exact kept (request_mem (show execHold p bytes s = .next t from ht) fun _ => rfl)
  | release p bytes => exact kept (request_mem ht fun _ => release_leavesMemory s)
  | checkChannels p bytes => exact kept (request_mem ht (checkChannels_leavesMemory s))
  | stopCheck p bytes => exact kept (request_mem ht fun _ => stopCheck_leavesMemory s)
  | writeService p bytes => exact kept (request_mem ht (writeService_leavesMemory s))
  | clearReflost p bytes => exact kept (request_mem ht fun _ => clearReflost_leavesMemory s)
  | clearRefEvents p bytes => exact kept (request_mem (show execClearRefEvents p bytes s = .next t from ht) fun _ => rfl)
  | refinRisingEdge => exact afterPassTo_memoryCanonical ht h fun u hf => by cases hf; exact .inl (refinRises_mem u)
  | referenceLocked => cases ht; exact kept (referenceLocks_mem s)
  | absenceExpiry => exact timedCommand_memoryCanonical (show execAbsenceExpiry s = .next t from ht) h absenceComes_mem
  | lineTimeAdvance => cases ht; exact kept (lineTimeAdvances_mem s)
  | lineTimeRcAdvance => exact timedCommand_memoryCanonical (show execLineTimeRcAdvance s = .next t from ht) h lineTimeRcAdvances_mem
  | laneInputTransition k fine =>
    change execLaneInputTransition k fine s = _ at ht
    rw [execLaneInputTransition, ← ite_not] at ht
    exact timedCommand_memoryCanonical ht h fun u => inputChanges_mem u k
  | qualifiedEdge c fine => exact afterPassTo_memoryCanonical ht h fun _ hf => edgeComes_mem hf
  | starvationExpiry c =>
    change execStarvationExpiry c s = _ at ht
    unfold execStarvationExpiry at ht
    split at ht
    · exact timedCommand_memoryCanonical ht h fun u => timerExpires_mem u c
    · cases ht; exact h
  | reductionComplete => exact kept (reductionComplete_mem ht)
  | calEdge e0 e1 e2 e3 =>
    exact timedCommand_memoryCanonical (show execCalEdge e0 e1 e2 e3 s = .next t from ht) h fun u => calEdgeComes_mem u e0 e1 e2 e3
  | deviceReset => cases ht; exact h
  | deviceResetRelease => cases ht; exact h
  | powerOnReset => cases ht; exact State.reset_mem_wf
  | powerOnSettleExpiry => cases ht; exact h

end

/-- Settles O7: every command keeps the canonical form, and so does the idle step, by the one write that an event can make. -/
theorem stepKeepsMemoryCanonical : Obligations.StepKeepsMemoryCanonical := by
  intro s t h ht
  unfold step at ht
  split at ht
  · exact exec_memoryCanonical _ ht h
  · exact idle_memoryCanonical ht h

end Sys2Proof.SampleProofs
end

section
namespace Sys2Proof.SampleProofs

open Sys2Proof Sys2Proof.Machine Sys2Proof.LaneProofs

/-! ### READ SAMPLES (R105, R106) -/

/-- The held pages that the words of a read lie in, by their numbers (R106). -/
theorem wordsHeld_iff {s : State} {a count : Nat} (least : 1 ≤ count) :
    s.wordsHeld a count = true ↔ ∃ q : PageNo, a / 1024 ≤ q.val ∧ q.val ≤ (a + count - 1) / 1024 ∧ s.pages[q].isSome := by
  have order : a / 1024 ≤ (a + count - 1) / 1024 := Nat.div_le_div_right (by omega)
  have range (q : PageNo) : q.val < a / 1024 + ((a + count - 1) / 1024 - a / 1024 + 1) ↔ q.val ≤ (a + count - 1) / 1024 := by omega
  simp only [State.wordsHeld, State.anyHeld, List.any_eq_true, List.mem_finRange, true_and, inPageRange, Bool.and_eq_true,
    decide_eq_true_eq, and_assoc, range]

theorem wordsHeld_eq_false {s : State} {a count : Nat} (least : 1 ≤ count)
    (free : ∀ q : PageNo, a / 1024 ≤ q.val → q.val ≤ (a + count - 1) / 1024 → s.pages[q] = none) :
    s.wordsHeld a count = false := by
  rw [← Bool.not_eq_true, wordsHeld_iff least]
  rintro ⟨q, first, last, held⟩
  rw [free q first last] at held
  cases held

/-- A two-byte field is read back from its bytes (R175). -/
theorem leValue_leBytes_two {v : Nat} (h : v < 65536) : leValue (leBytes 2 v) = v := by
  simp only [leBytes, leValue, BitVec.toNat_ofNat]
  omega

/-- The payload of a READ SAMPLES: window, offset and count (R175). -/
abbrev samplesPayload (w : Byte) (offset : Nat) (count : Byte) : List Byte := w :: leBytes 2 offset ++ [count]

section

variable {s : State} {p : PortNo} {w count : Byte} {offset : Nat}

theorem samplesPayload_window : byteAt (samplesPayload w offset count) 0 = w.toNat := byteAt_cons_zero w _

theorem samplesPayload_offset (small : offset < 65536) : field (samplesPayload w offset count) 1 2 = offset := leValue_leBytes_two small

theorem samplesPayload_count : byteAt (samplesPayload w offset count) 3 = count.toNat := byteAt_cons_zero count []

theorem readSamples_badValue (bad : count = 0 ∨ 64 < count.toNat) :
    readSamples s p (samplesPayload w offset count) = refuse .badValue s := by
  rw [readSamples, samplesPayload_count]
  exact if_pos (bad.imp_left fun zero => by rw [zero]; rfl)

theorem readSamples_noWindow (least : 1 ≤ count.toNat) (most : count.toNat ≤ 64) (high : 7 < w.toNat) :
    readSamples s p (samplesPayload w offset count) = refuse .windowAbsent s := by
  rw [readSamples, samplesPayload_count, samplesPayload_window, if_neg (by omega), named_eq_none high]

variable {x : WindowNo}

/-- READ SAMPLES of a window of the map from the word `a` on, its count in range: three refusals, the stop where a word does not exist,
the words. -/
theorem readSamples_window {a : Nat} (small : offset < 65536) (least : 1 ≤ count.toNat) (most : count.toNat ≤ 64)
    (names : w.toNat = x.val) (first : s.windows[p][x].base * 1024 + offset = a) :
    readSamples s p (samplesPayload w offset count) =
      if s.windows[p][x].key = .absent then refuse .windowAbsent s
      else if s.windows[p][x].length * 1024 < offset + count.toNat then refuse .outOfWindow s
      else if s.wordsHeld a count.toNat then refuse .pagesBusy s
      else if 65536 < a + count.toNat then .fault (.noSuchWord (a + count.toNat - 1))
      else .answer .success ((s.mem.readRun a count.toNat).flatMap fun v => leBytes 6 v.toNat) s := by
  subst first
  rw [readSamples, samplesPayload_count, samplesPayload_window, samplesPayload_offset small, if_neg (by omega), named_eq_some names]
  rfl

/-- The words in ascending order, six bytes each. -/
theorem readRun_bytes (m : Memory) (a k : Nat) :
    ((m.readRun a k).flatMap fun v => leBytes 6 v.toNat) = (List.range k).flatMap fun j => leBytes 6 (m.read (a + j)).toNat :=
  List.flatMap_map ..

/-- A READ SAMPLES is taken with what its rule answers. -/
theorem readSamples_takes {t : State} {status : Status} {body : List Byte}
    (answers : readSamples s p (samplesPayload w offset count) = .answer status body t) :
    s.takes .readSamples 0x06 p (samplesPayload w offset count) t status body :=
  takes_of_run rfl (by simp [leBytes]) rfl answers

end

/-- Settles O23, by the refusals of R105 in their order and the pages that a read's words lie in. -/
theorem readSamplesAnswer : Obligations.ReadSamplesAnswer := by
  intro s p w offset count small
  refine ⟨fun bad => readSamples_takes (readSamples_badValue bad), fun least most =>
    ⟨fun high => readSamples_takes (readSamples_noWindow least most high), fun x names => ?_⟩⟩
  have window := readSamples_window (s := s) (p := p) small least most names rfl
  refine ⟨fun absent => ?_, fun key long => ?_, fun key inside fits => ⟨fun held => ?_, fun free => ?_⟩⟩
  · exact readSamples_takes (window.trans (if_pos absent))
  · rw [if_neg key, if_pos long] at window
    exact readSamples_takes window
  · rw [if_neg key, if_neg (Nat.not_lt.mpr inside), if_pos ((wordsHeld_iff least).mpr held)] at window
    exact readSamples_takes window
  · have exist : s.windows[p][x].base * 1024 + offset + count.toNat ≤ 65536 := by omega
    have unheld : ¬ s.wordsHeld (s.windows[p][x].base * 1024 + offset) count.toNat := by
      rw [wordsHeld_eq_false least free]
      exact Bool.false_ne_true
    rw [if_neg key, if_neg (Nat.not_lt.mpr inside), if_neg unheld, if_neg (Nat.not_lt.mpr exist), readRun_bytes] at window
    exact readSamples_takes window

/-! ### WRITE WINDOW (R101, R102) -/

theorem keyOf_eq_none {v : Nat} (h : 2 < v) : keyOf v = none := by
  rw [keyOf, if_neg (by omega), if_neg (by omega), if_neg (by omega)]

section

variable {s : State} {a b k base length : Byte}

theorem writeWindow_named {q : PortNo} {w : WindowNo} {key : Key} (port : a.toNat = q.val) (window : b.toNat = w.val)
    (code : keyOf k.toNat = some key) :
    writeWindow s [a, b, k, base, length] =
      if length.toNat = 0 ∨ 16 < length.toNat ∨ 64 < base.toNat + length.toNat then refuse .badWindow s
      else succeed { s with windows := s.windows.set q (s.windows[q].set w ⟨key, base.toNat, length.toNat⟩) } := by
  simp only [writeWindow, byteAt_cons_succ, byteAt_cons_zero, named_eq_some port, named_eq_some window, code]

theorem writeWindow_bad (bad : 3 < a.toNat ∨ 7 < b.toNat ∨ 2 < k.toNat ∨ length = 0 ∨ 16 < length.toNat ∨
    64 < base.toNat + length.toNat) : writeWindow s [a, b, k, base, length] = refuse .badWindow s := by
  simp only [writeWindow, byteAt_cons_succ, byteAt_cons_zero]
  rcases bad with port | window | key | size
  · rw [named_eq_none port]
  · rw [named_eq_none window]
    cases named 4 a.toNat <;> rfl
  · rw [keyOf_eq_none key]
    cases named 4 a.toNat with
    | none => rfl
    | some => cases named 8 b.toNat <;> rfl
  · have outside : length.toNat = 0 ∨ 16 < length.toNat ∨ Config.memoryPages < base.toNat + length.toNat :=
      size.imp_left fun zero => by rw [zero]; rfl
    split
    · exact if_pos outside
    · rfl

end

/-- Settles O45, by the ranges of the five fields. -/
theorem writeWindow : Obligations.WriteWindow := by
  intro s a b k base length
  refine ⟨fun bad => takes_of_run rfl (by simp) rfl (writeWindow_bad bad), fun q w key port window code least most inside => ?_⟩
  have spelled : keyOf k.toNat = some key := by
    subst code
    cases key <;> rfl
  refine takes_of_run rfl (by simp) rfl ((writeWindow_named port window spelled).trans ?_)
  rw [if_neg (by omega)]
  rfl

end Sys2Proof.SampleProofs
end

section
namespace Sys2Proof.ReductionProofs

open Sys2Proof Sys2Proof.Machine Sys2Proof.LaneProofs Sys2Proof.JobProofs

/-! ### The end of a reduction (R112, R113, R115) -/

/-- The part after the job `j` of slot `i` has ended with its result, before the Reduction Unit takes the next head (R115). -/
def reductionEnd (s : State) (i : SlotNo) (j : Job) : State :=
  let r := reduce (s.capture j) j.dEffective j.pnom j.bands
  { (s.setJob i (j.reduced r)).completeJob i .done (s.binOf j.limitSet j.runts r) with current := none }

theorem completeReduction_eq (s : State) (i : SlotNo) (j : Job) : s.completeReduction i j = (reductionEnd s i j).takeHead := rfl

theorem reductionComplete_of_idle {s : State} (idle : s.current = none) : exec .reductionComplete s = .next s := by
  change execReductionComplete s = _
  rw [execReductionComplete, idle]
  rfl

theorem reductionComplete_of_current {s : State} {h : Handle} {j : Job} (current : s.current = some h) (found : s.lookup h = some j)
    (exist : j.baseWord + j.n ≤ Config.memoryWords) : exec .reductionComplete s = .next (s.completeReduction h.slot j) := by
  have running : (s.current.bind fun h => (s.lookup h).map fun j => (h.slot, j)) = some (h.slot, j) := by
    rw [current, Option.bind_some, found, Option.map_some]
  change execReductionComplete s = _
  rw [execReductionComplete, running]
  exact if_neg (Nat.not_lt.mpr exist)

/-- BAND_SHORT says that some entry of the band list is absent (R115, R127). -/
theorem bandShort_eq (r : Result) : bandShort r = decide (∃ b ∈ r.bands, b.rms16 = none) := by
  rw [bandShort, List.any_eq]
  simp only [Option.isNone_iff_eq_none]

/-- A job written into its slot and then ended stands or leaves as `ended` says, whatever the slot held before. -/
theorem setJob_completeJob_ended (s : State) (i : SlotNo) (j : Job) (o : EndOutcome) (v : Verdict) :
    ended s ((s.setJob i j).completeJob i o v) i (endedAs j o v) := by
  have handle : (s.setJob i j).handleAt i = s.handleAt i := by
    rw [State.handleAt, setJob_table, if_pos rfl]
    rfl
  have offered : (s.setJob i j).completeJob i o v = (completed s i (endedAs j o v)).offerJob i (endedAs j o v) := by
    rw [completeJob_of_some (setJob_jobAt s i j), handle, setJob_setJob]
    rfl
  rw [offered]
  by_cases admits : s.queues[(endedAs j o v).port].admits = true
  · exact ended_of_admits admits
  · exact ended_of_not_admits admits

theorem reductionEnd_ended (s : State) (i : SlotNo) (j : Job) :
    let r := reduce (s.capture j) j.dEffective j.pnom j.bands
    ended s (reductionEnd s i j) i (endedAs (j.reduced r) .done (s.binOf j.limitSet j.runts r)) :=
  setJob_completeJob_ended s i (j.reduced _) .done _

/-- The end of a reduction writes what `ended` speaks of and leaves the unit without a job, and nothing else. -/
theorem reductionEnd_eq_withJobsOf (s : State) (i : SlotNo) (j : Job) :
    reductionEnd s i j = { s.withJobsOf (reductionEnd s i j) with current := none } :=
  congrArg (fun t : State => { t with current := none }) (completeJob_eq_withJobsOf (s.setJob i (j.reduced _)) i .done _)

theorem reductionEnd_fifo (s : State) (i : SlotNo) (j : Job) : (reductionEnd s i j).fifo = s.fifo :=
  State.completeJob_fifo ..

/-- A handle of the FIFO is not of the slot whose job is being reduced (R110). -/
theorem slot_ne_of_queued {s : State} (agree : s.reductionAgrees) {h h' : Handle} {j j' : Job} (current : s.current = some h)
    (hj : s.jobAt h.slot = some j) (queued : h' ∈ s.fifo) (hj' : s.jobAt h'.slot = some j') : h'.slot ≠ h.slot := by
  obtain ⟨-, waits, -, reduces, -⟩ := agree
  obtain ⟨k, found, reducing⟩ := reduces h current
  obtain ⟨k', found', waiting⟩ := waits h' queued
  cases hj.symm.trans (lookup_eq_some.mp found).2
  cases hj'.symm.trans (lookup_eq_some.mp found').2
  intro same
  rw [same, hj] at hj'
  cases hj'
  cases reducing.symm.trans waiting

/-- An IDLE unit takes the head of the FIFO, whose job is then REDUCING (R112). -/
theorem takeHead_eq {s : State} {h : Handle} {rest : List Handle} {j : Job} (idle : s.current = none) (fifo : s.fifo = h :: rest)
    (hj : s.jobAt h.slot = some j) :
    s.takeHead = { s with
      fifo := rest
      current := some h
      table := s.table.set h.slot ⟨s.table[h.slot].gen, some { j with state := .reducing }⟩ } := by
  rw [takeHead_of_idle idle fifo]
  exact modifyJob_of_some (s := { s with fifo := rest, current := some h }) hj _

/-- Settles O46: the job ends as every ended job does, and then the unit, now IDLE, takes the head of the FIFO. -/
theorem reductionComplete : Obligations.ReductionComplete := by
  intro s
  refine ⟨reductionComplete_of_idle, ?_⟩
  intro h j agree bounds current hj r verdict
  obtain ⟨-, unit, -, -⟩ := agree
  obtain ⟨-, ranges, -⟩ := bounds
  have found : s.lookup h = some j := by
    obtain ⟨-, -, -, reduces, -⟩ := unit
    obtain ⟨k, named, -⟩ := reduces h current
    cases hj.symm.trans (lookup_eq_some.mp named).2
    exact named
  have binned : s.binOf j.limitSet j.runts r = verdict := by
    dsimp only [verdict]
    cases j.limitSet <;> rfl
  have ends := reductionEnd_ended s h.slot j
  refine ⟨reductionEnd s h.slot j, (reductionEnd s h.slot j).takeHead,
    reductionComplete_of_current current found (ranges h.slot j hj).2, ?_, reductionEnd_eq_withJobsOf s h.slot j, fun empty => ?_,
    fun h' rest j' fifo hj' => ?_⟩
  · rw [← binned, ← bandShort_eq]
    exact ends
  · rw [State.takeHead, reductionEnd_fifo, empty]
    rfl
  · obtain ⟨-, others, -⟩ := ends
    have other := others h'.slot (slot_ne_of_queued unit current hj (fifo ▸ List.mem_cons_self) hj')
    rw [← other]
    exact takeHead_eq rfl ((reductionEnd_fifo s h.slot j).trans fifo) ((jobAt_congr other).trans hj')

end Sys2Proof.ReductionProofs
end

section
namespace Sys2Proof.ReductionProofs

open Sys2Proof Sys2Proof.Machine

/-! ### Roots, roundings and variances (R117, R122, R123, R125, R128) -/

/-- A root bracketed by `2 ^ k` stays bracketed while its bits are found, down to the last. -/
theorem isqrtBits_spec (v : Nat) : ∀ k r : Nat, r * r ≤ v → v < (r + 2 ^ k) * (r + 2 ^ k) →
    isqrtBits v k r * isqrtBits v k r ≤ v ∧ v < (isqrtBits v k r + 1) * (isqrtBits v k r + 1)
  | 0, r, low, high => ⟨low, high⟩
  | k + 1, r, low, high => by
    have double : r + 2 ^ (k + 1) = r + 2 ^ k + 2 ^ k := by rw [pow_succ]; omega
    rw [double] at high
    rw [isqrtBits]
    split
    · exact isqrtBits_spec v k _ ‹_› high
    · exact isqrtBits_spec v k r low (Nat.lt_of_not_le ‹_›)

theorem isqrt_spec (v : Nat) : isqrt v * isqrt v ≤ v ∧ v < (isqrt v + 1) * (isqrt v + 1) := by
  refine isqrtBits_spec v _ 0 (Nat.zero_le v) ?_
  have bits : v.log2 + 1 ≤ (v.log2 / 2 + 1) + (v.log2 / 2 + 1) := by omega
  calc v < 2 ^ (v.log2 + 1) := Nat.lt_log2_self
    _ ≤ 2 ^ ((v.log2 / 2 + 1) + (v.log2 / 2 + 1)) := Nat.pow_le_pow_right (by decide) bits
    _ = (0 + 2 ^ (v.log2 / 2 + 1)) * (0 + 2 ^ (v.log2 / 2 + 1)) := by rw [Nat.zero_add, pow_add]

/-- A quotient rounded to the nearest, `q` of `a` over `d`, lies within half a unit, and above it at the half. -/
theorem roundedHalfUp (a : Nat) {d : Nat} (positive : 0 < d) :
    2 * d * ((2 * a + d) / (2 * d)) ≤ 2 * a + d ∧ 2 * a + d < 2 * d * ((2 * a + d) / (2 * d) + 1) :=
  ⟨Nat.mul_div_le .., Nat.lt_mul_div_succ _ (by omega)⟩

theorem chord_spec (total : Nat) {m : Nat} (positive : 0 < m) (k : Nat) :
    2 * m * chord total m k ≤ 2 * k * total + m ∧ 2 * k * total + m < 2 * m * (chord total m k + 1) := by
  rw [chord, Nat.mul_assoc 2 k total]
  exact roundedHalfUp (k * total) positive

theorem chord_zero (total : Nat) {m : Nat} (positive : 0 < m) : chord total m 0 = 0 := by
  rw [chord, Nat.mul_zero, Nat.zero_mul, Nat.zero_add]
  exact Nat.div_eq_of_lt (by omega)

theorem chord_last (total : Nat) {m : Nat} (positive : 0 < m) : chord total m m = total := by
  rw [chord, Nat.mul_add_div (by omega), Nat.div_eq_of_lt (by omega), Nat.add_zero]

/-- FO is a sign times a magnitude rounded half up, which is half away from zero (R122). -/
theorem frequencyOffset_spec (total m inom : Nat) (positive : 0 < m * inom) :
    let num : Int := 1000000000 * ((total : Int) - m * inom)
    let den : Int := m * inom
    let fo := frequencyOffset total m inom
    2 * (fo * den - num) ≤ den ∧ -den ≤ 2 * (fo * den - num) ∧ (0 < num → -den < 2 * (fo * den - num)) ∧
      (num < 0 → 2 * (fo * den - num) < den) := by
  intro num den fo
  obtain ⟨low, high⟩ := roundedHalfUp num.natAbs positive
  generalize hq : (2 * num.natAbs + m * inom) / (2 * (m * inom)) = q at low high
  have offset : fo = num.sign * q := by rw [← hq]; rfl
  have size : ((m * inom : Nat) : Int) = den := Int.natCast_mul m inom
  generalize m * inom = d at low high size positive
  rw [Nat.mul_assoc, Nat.mul_comm d q] at low
  rw [Nat.mul_assoc, Nat.mul_add_one, Nat.mul_comm d q] at high
  clear_value num den
  subst size
  obtain negative | rfl | above := lt_trichotomy num 0
  · have value : fo * d = -((q * d : Nat) : Int) := by rw [offset, Int.sign_eq_neg_one_of_neg negative]; push_cast; ring
    omega
  · have value : fo * d = 0 := by rw [offset, Int.sign_zero, zero_mul, zero_mul]
    omega
  · have value : fo * d = ((q * d : Nat) : Int) := by rw [offset, Int.sign_eq_one_of_pos above, one_mul, Int.natCast_mul]
    omega

/-- The sum of squares as a signed figure. -/
theorem sumSquares_cast (l : List Int) : (sumSquares l : Int) = (l.map fun x => x * x).sum := by
  rw [sumSquares, Nat.cast_list_sum, List.map_map]
  congr 2
  funext x
  exact Int.natAbs_mul_self

/-- Cauchy's inequality for the figures of a list: no variance is below zero (R123, R128). -/
theorem sum_natAbs_sq_le (l : List Int) : l.sum.natAbs * l.sum.natAbs ≤ l.length * sumSquares l := by
  have cauchy := sq_sum_le_card_mul_sum_sq (s := Finset.univ) (f := fun k : Fin l.length => l[k.val])
  rw [Finset.card_fin, Fin.sum_univ_getElem, Fin.sum_univ_fun_getElem l (fun x => x ^ 2)] at cauchy
  zify
  simpa only [sumSquares_cast, sq, abs_mul_abs_self] using cauchy

/-- Settles O49, from the root's bits, the two roundings to the nearest and Cauchy's inequality. -/
theorem roundingsAndVariance : Obligations.RoundingsAndVariance :=
  ⟨isqrt_spec, frequencyOffset_spec,
    fun total _ k positive => ⟨chord_zero total positive, chord_last total positive, chord_spec total positive k⟩, sum_natAbs_sq_le⟩

end Sys2Proof.ReductionProofs
end

section
namespace Sys2Proof.ReductionProofs

open Sys2Proof Sys2Proof.Machine

/-! ### Extremes -/

theorem isGreatest_foldl_max {α : Type} [LinearOrder α] (l : List α) (a : α) : IsGreatest {x | x ∈ a :: l} (l.foldl max a) :=
  List.max?_eq_some_iff.mp List.max?_cons'

theorem isLeast_foldl_min {α : Type} [LinearOrder α] (l : List α) (a : α) : IsLeast {x | x ∈ a :: l} (l.foldl min a) :=
  List.min?_eq_some_iff.mp List.min?_cons'

theorem isGreatest_largest {l : List Nat} (nonempty : l ≠ []) : IsGreatest {x | x ∈ l} (largest l) := by
  obtain ⟨a, l, rfl⟩ := List.exists_cons_of_ne_nil nonempty
  rw [largest, List.foldl_cons, Nat.zero_max]
  exact isGreatest_foldl_max l a

theorem isLeast_smallest {l : List Nat} (nonempty : l ≠ []) : IsLeast {x | x ∈ l} (smallest l) := by
  obtain ⟨a, l, rfl⟩ := List.exists_cons_of_ne_nil nonempty
  exact isLeast_foldl_min l a

theorem mem_cons_of_zero_mem {l : List Int} (zero : 0 ∈ l) : {x | x ∈ 0 :: l} = {x | x ∈ l} :=
  Set.ext fun _ => ⟨fun h => (List.mem_cons.mp h).elim (fun same => same ▸ zero) id, List.mem_cons_of_mem 0⟩

theorem isGreatest_largestInt {l : List Int} (zero : 0 ∈ l) : IsGreatest {x | x ∈ l} (largestInt l) :=
  mem_cons_of_zero_mem zero ▸ isGreatest_foldl_max l 0

theorem isLeast_smallestInt {l : List Int} (zero : 0 ∈ l) : IsLeast {x | x ∈ l} (smallestInt l) :=
  mem_cons_of_zero_mem zero ▸ isLeast_foldl_min l 0

/-! ### Intervals and cumulative positions (R118) -/

theorem intervals_length : ∀ t : List Timestamp, (intervals t).length = t.length - 1
  | [] | [_] => rfl
  | _ :: b :: r => congrArg (· + 1) (intervals_length (b :: r))

theorem intervals_getElem? : ∀ (t : List Timestamp) (k : Nat) (a b : Timestamp), t[k]? = some a → t[k + 1]? = some b →
    (intervals t)[k]? = some (b - a).toNat
  | [], _, _, _, ha, _ => nomatch ha
  | [_], _, _, _, _, hb => nomatch hb
  | _ :: _ :: _, 0, _, _, ha, hb => by
    cases ha
    cases hb
    rfl
  | _ :: y :: r, k + 1, a, b, ha, hb => intervals_getElem? (y :: r) k a b ha hb

/-- The intervals up to a last timestamp add up to the time to it, modulo 2⁴⁸. -/
theorem intervals_sum (b : Timestamp) : ∀ (l : List Timestamp) (a : Timestamp), (intervals (a :: l ++ [b])).sum % 2 ^ 48 = (b - a).toNat
  | [], a => Nat.mod_eq_of_lt (b - a).isLt
  | c :: l, a => by
    have rest := intervals_sum b l c
    have whole : intervals (a :: (c :: l) ++ [b]) = (c - a).toNat :: intervals (c :: l ++ [b]) := rfl
    have steps : b - a = (c - a) + (b - c) := by bv_omega
    rw [whole, List.sum_cons, steps, BitVec.toNat_add, ← rest, Nat.add_mod_mod]

/-- Position `k` is the start and the first `k` intervals after it. -/
theorem cumulative_eq_map : ∀ (i : List Nat) (start : Nat),
    cumulative start i = (List.range (i.length + 1)).map fun k => start + (i.take k).sum
  | [], _ => rfl
  | x :: i, start => by
    rw [cumulative, cumulative_eq_map i, List.length_cons, List.range_succ_eq_map (n := i.length + 1), List.map_cons, List.map_map]
    congr 2
    funext k
    exact Nat.add_assoc ..

theorem cumulative_head? (start : Nat) (i : List Nat) : (cumulative start i).head? = some start := by
  cases i <;> rfl

theorem cumulative_getLast? (start : Nat) (i : List Nat) : (cumulative start i).getLast? = some (start + i.sum) := by
  rw [cumulative_eq_map, List.range_succ, List.map_append, List.map_singleton, List.getLast?_concat, List.take_length]

/-! ### Slips and the spread of the intervals (R119, R120) -/

theorem isSlip_iff {inom i : Nat} : isSlip inom i = true ↔ i < inom - inom / 8 ∨ inom + inom / 8 < i := by
  rw [isSlip, Bool.or_eq_true, decide_eq_true_eq, decide_eq_true_eq]

/-- PJ_PP is the spread of the intervals. -/
theorem reduce_pjPp {t : List Timestamp} (nonempty : intervals t ≠ []) (d pnom : Nat) (bands : List Nat) :
    ∃ hi ∈ intervals t, ∃ lo ∈ intervals t, (∀ v ∈ intervals t, lo ≤ v ∧ v ≤ hi) ∧ (reduce t d pnom bands).pjPp = hi - lo := by
  obtain ⟨high, above⟩ := isGreatest_largest nonempty
  obtain ⟨low, below⟩ := isLeast_smallest nonempty
  exact ⟨_, high, _, low, fun v hv => ⟨below hv, above hv⟩, rfl⟩

theorem intervals_ne_nil {t : List Timestamp} (two : 2 ≤ t.length) : intervals t ≠ [] :=
  List.ne_nil_of_length_pos (by rw [intervals_length]; omega)

/-- Settles O47, by recursion along the timestamps. -/
theorem intervalFigures : Obligations.IntervalFigures := by
  refine ⟨intervals_getElem?, fun a b l => ⟨?_, intervals_sum b l a, cumulative_head? .., ?_⟩, fun a b l d pnom bands => ⟨?_, ?_⟩⟩
  · rw [intervals_length, List.length_append]
    rfl
  · rw [cumulative_getLast?, Nat.zero_add]
  · exact List.countP_congr fun v _ => isSlip_iff.trans decide_eq_true_iff.symm
  · exact reduce_pjPp (intervals_ne_nil (t := a :: b :: l) (Nat.le_add_left 2 l.length)) d pnom bands

/-! ### Relations between the figures (R120, R122, R132) -/

/-- The steps are the differences of neighbours. -/
theorem steps_eq_map : ∀ i : List Nat, steps i = (i.zip i.tail).map fun p => (p.2 : Int) - p.1
  | [] | [_] => rfl
  | a :: b :: r => congrArg (((b : Int) - a) :: ·) (steps_eq_map (b :: r))

theorem steps_length (i : List Nat) : (steps i).length = i.length - 1 := by
  rw [steps_eq_map, List.length_map, List.length_zip, List.length_tail]
  omega

theorem mem_steps {i : List Nat} {x : Int} (h : x ∈ steps i) : ∃ a ∈ i, ∃ b ∈ i, x = (b : Int) - a := by
  rw [steps_eq_map] at h
  obtain ⟨⟨a, b⟩, pair, rfl⟩ := List.mem_map.mp h
  obtain ⟨first, second⟩ := List.of_mem_zip pair
  exact ⟨a, first, b, List.mem_of_mem_tail second, rfl⟩

/-- No step is larger than the spread of the intervals. -/
theorem c2cMax_le_pjPp {t : List Timestamp} (two : 2 ≤ t.length) (d pnom : Nat) (bands : List Nat) :
    (reduce t d pnom bands).c2cMax ≤ (reduce t d pnom bands).pjPp := by
  obtain ⟨hi, -, lo, -, range, spread⟩ := reduce_pjPp (intervals_ne_nil two) d pnom bands
  obtain ⟨member, -⟩ := isGreatest_foldl_max ((steps (intervals t)).map Int.natAbs) 0
  obtain zero | inside := List.mem_cons.mp member
  · exact (Nat.le_of_eq zero).trans (Nat.zero_le _)
  · obtain ⟨x, hx, size⟩ := List.mem_map.mp inside
    obtain ⟨a, ha, b, hb, rfl⟩ := mem_steps hx
    have first := range a ha
    have second := range b hb
    rw [spread]
    refine (Nat.le_of_eq size.symm).trans ?_
    omega

theorem pjPp_le_of_noSlip {t : List Timestamp} (two : 2 ≤ t.length) {d pnom : Nat} {bands : List Nat}
    (noSlip : (reduce t d pnom bands).slips = 0) : (reduce t d pnom bands).pjPp ≤ 2 * (d * pnom / 8) := by
  obtain ⟨hi, high, lo, low, -, spread⟩ := reduce_pjPp (intervals_ne_nil two) d pnom bands
  have regular (v : Nat) (hv : v ∈ intervals t) : d * pnom - d * pnom / 8 ≤ v ∧ v ≤ d * pnom + d * pnom / 8 := by
    have slip := mt isSlip_iff.mpr (List.countP_eq_zero.mp noSlip v hv)
    omega
  have below := regular hi high
  have above := regular lo low
  omega

/-- A frequency is at worst its whole nominal value too low: the offset is never below −10⁹. -/
theorem frequencyOffset_ge {m inom : Nat} (total : Nat) (positive : 0 < m * inom) : -1000000000 ≤ frequencyOffset total m inom := by
  obtain ⟨-, low, -⟩ := frequencyOffset_spec total m inom positive
  have size : (0 : Int) < m * inom := by exact_mod_cast positive
  by_contra below
  have times := mul_le_mul_of_nonneg_right (show frequencyOffset total m inom ≤ -1000000001 by omega) size.le
  linarith [Int.natCast_nonneg total]

theorem boundFo_eq (f : Int) : boundFo f = if 2147483647 < f then 2147483647 else if f < -2147483647 then -2147483647 else f := by
  unfold boundFo Config.foLimit
  omega

theorem boundFo_ne_iff (f : Int) : boundFo f ≠ f ↔ 2147483647 < f ∨ f < -2147483647 := by
  unfold boundFo Config.foLimit
  omega

theorem reduce_foSat_iff (t : List Timestamp) (d pnom : Nat) (bands : List Nat) :
    let offset := frequencyOffset (intervals t).sum (intervals t).length (d * pnom)
    (reduce t d pnom bands).foSat = true ↔ 2147483647 < offset ∨ offset < -2147483647 :=
  decide_eq_true_iff.trans (boundFo_ne_iff _)

/-- Settles O48, by the spread of the intervals and the least frequency offset. -/
theorem resultRelations : Obligations.ResultRelations := by
  intro t d pnom bands two decimation period r
  let offset := frequencyOffset (intervals t).sum (intervals t).length (d * pnom)
  have least : -1000000000 ≤ offset :=
    frequencyOffset_ge _ (Nat.mul_pos (List.length_pos_of_ne_nil (intervals_ne_nil two)) (Nat.mul_pos decimation period))
  have fo : r.fo = if 2147483647 < offset then 2147483647 else if offset < -2147483647 then -2147483647 else offset := boundFo_eq offset
  have saturates : r.foSat = true ↔ 2147483647 < offset ∨ offset < -2147483647 := reduce_foSat_iff t d pnom bands
  refine ⟨c2cMax_le_pjPp two d pnom bands, ?_, ?_, fun saturated => ?_, pjPp_le_of_noSlip two⟩
  · omega
  · omega
  · obtain high | low := saturates.mp saturated
    · rw [fo, if_pos high]
    · omega

end Sys2Proof.ReductionProofs
end

section
namespace Sys2Proof.ReductionProofs

open Sys2Proof Sys2Proof.Machine

/-! ### Errors against the chord (R125, R126) -/

theorem chordErrors_cumulative (total m : Nat) : ∀ (i : List Nat) (k start : Nat), chordErrors total m k (cumulative start i) =
    (List.range (i.length + 1)).map fun n => (((start + (i.take n).sum : Nat) : Int) - chord total m (k + n))
  | [], _, _ => rfl
  | x :: i, k, start => by
    rw [cumulative, chordErrors, chordErrors_cumulative total m i, List.length_cons, List.range_succ_eq_map (n := i.length + 1),
      List.map_cons, List.map_map]
    congr 2
    funext n
    rw [Function.comp_apply, List.take_succ_cons, List.sum_cons, Nat.add_assoc, Nat.add_assoc, Nat.add_comm 1 n]

/-- The errors x_0 to x_M of a capture's positions against its chord, as `reduce` forms them. -/
def captureErrors (t : List Timestamp) : List Int :=
  chordErrors (intervals t).sum (intervals t).length 0 (cumulative 0 (intervals t))

theorem captureErrors_eq {t : List Timestamp} (two : 2 ≤ t.length) :
    captureErrors t = (List.range t.length).map fun k =>
      (((intervals t).take k).sum : Int) - chord (intervals t).sum (intervals t).length k := by
  have length : (intervals t).length + 1 = t.length := by rw [intervals_length]; omega
  rw [captureErrors, chordErrors_cumulative, length]
  simp only [Nat.zero_add]

theorem captureErrors_length {t : List Timestamp} (two : 2 ≤ t.length) : (captureErrors t).length = t.length := by
  rw [captureErrors_eq two, List.length_map, List.length_range]

/-- The chord starts at the first timestamp. -/
theorem zero_mem_captureErrors {t : List Timestamp} (two : 2 ≤ t.length) : 0 ∈ captureErrors t := by
  have positive := List.length_pos_of_ne_nil (intervals_ne_nil two)
  rw [captureErrors_eq two, List.mem_map]
  refine ⟨0, List.mem_range.mpr (by omega), ?_⟩
  rw [chord_zero _ positive]
  rfl

/-- TIE_PP is the spread of the errors. -/
theorem reduce_tiePp {t : List Timestamp} (two : 2 ≤ t.length) (d pnom : Nat) (bands : List Nat) :
    ∃ hi ∈ captureErrors t, ∃ lo ∈ captureErrors t, (∀ x ∈ captureErrors t, lo ≤ x ∧ x ≤ hi) ∧
      ((reduce t d pnom bands).tiePp : Int) = hi - lo := by
  obtain ⟨high, above⟩ := isGreatest_largestInt (zero_mem_captureErrors two)
  obtain ⟨low, below⟩ := isLeast_smallestInt (zero_mem_captureErrors two)
  exact ⟨_, high, _, low, fun x hx => ⟨below hx, above hx⟩, Int.toNat_of_nonneg (Int.sub_nonneg.mpr (below high))⟩

/-! ### Band entries (R127 to R130) -/

theorem reduce_band {t : List Timestamp} {d pnom : Nat} {bands : List Nat} {b w : Nat} (hw : bands[b]? = some w) :
    (reduce t d pnom bands).bands[b]? = some (bandResult d pnom (captureErrors t) w) :=
  List.getElem?_map.trans (congrArg (Option.map (bandResult d pnom (captureErrors t))) hw)

theorem bandResult_absent_iff {d pnom : Nat} {x : List Int} {w : Nat} : (bandResult d pnom x w).rms16 = none ↔ x.length < 2 * w :=
  ite_eq_left_iff.trans (by simp)

theorem bandResult_present {d pnom : Nat} {x : List Int} {w v : Nat} (present : (bandResult d pnom x w).rms16 = some v) :
    2 * w ≤ x.length ∧ v = bandRms16 w x := by
  have enough : ¬ x.length < 2 * w := fun short => nomatch (bandResult_absent_iff.mpr short).symm.trans present
  exact ⟨Nat.le_of_not_lt enough, Option.some.inj (present.symm.trans (if_neg enough))⟩

/-- Settles O51: one entry is formed for each position, from as many errors as there are timestamps. -/
theorem bandEntries : Obligations.BandEntries := by
  intro t d pnom bands two r
  refine ⟨List.length_map .., rfl, rfl, fun b w e hw he => ?_⟩
  cases (reduce_band hw).symm.trans he
  refine ⟨rfl, rfl, ?_⟩
  rw [← captureErrors_length two]
  exact bandResult_absent_iff

/-! ### Roots rounded down (R123, R124, R126, R128) -/

/-- `root` is the root of `num` over `den`, rounded down. -/
def RootOf (root : Nat) (num : Int) (den : Nat) : Prop :=
  ((root * root * den : Nat) : Int) ≤ num ∧ num < (((root + 1) * (root + 1) * den : Nat) : Int)

theorem isqrt_rootOf (num : Nat) {den : Nat} (positive : 0 < den) : RootOf (isqrt (num / den)) num den := by
  obtain ⟨low, high⟩ := isqrt_spec (num / den)
  exact ⟨Int.ofNat_le.mpr ((Nat.le_div_iff_mul_le positive).mp low), Int.ofNat_lt.mpr ((Nat.div_lt_iff_lt_mul positive).mp high)⟩

theorem rms16_rootOf {l : List Int} (nonempty : 0 < l.length) : RootOf (rms16 l) (256 * (l.map fun x => x * x).sum) l.length := by
  rw [← sumSquares_cast]
  exact isqrt_rootOf (256 * sumSquares l) nonempty

/-- The variance of `n` figures as a signed figure: nothing is cut off below zero. -/
theorem variance_cast {l : List Int} {n : Nat} (length : l.length = n) :
    ((n * sumSquares l - l.sum.natAbs * l.sum.natAbs : Nat) : Int) = n * (l.map fun x => x * x).sum - l.sum * l.sum := by
  subst length
  rw [Nat.cast_sub (sum_natAbs_sq_le l), Nat.cast_mul, sumSquares_cast, Int.natAbs_mul_self]

theorem periodRms16_rootOf {l : List Int} (nonempty : 0 < l.length) :
    RootOf (periodRms16 l) (256 * (l.length * (l.map fun x => x * x).sum - l.sum * l.sum)) (l.length * l.length) := by
  rw [← variance_cast rfl]
  exact isqrt_rootOf (256 * (l.length * sumSquares l - l.sum.natAbs * l.sum.natAbs)) (Nat.mul_pos nonempty nonempty)

/-- Block `n` holds the errors from `n × W` on. -/
theorem blocks_eq_map (w : Nat) : ∀ (k : Nat) (l : List Int), blocks w k l = (List.range k).map fun n => (l.drop (n * w)).take w
  | 0, _ => rfl
  | k + 1, l => by
    rw [blocks, blocks_eq_map w k, List.range_succ_eq_map, List.map_cons, List.map_map, Nat.zero_mul, List.drop_zero]
    congr 2
    funext n
    rw [List.drop_drop, Function.comp_apply, Nat.succ_mul, Nat.add_comm]

theorem take_drop_eq_map {l : List Int} {a w : Nat} (inside : a + w ≤ l.length) :
    (l.drop a).take w = (List.range w).map fun b => l.getD (a + b) 0 := by
  refine List.ext_getElem (by simp; omega) fun b _ hb => ?_
  rw [List.length_map, List.length_range] at hb
  rw [List.getElem_take, List.getElem_drop, List.getElem_map, List.getElem_range, List.getD_eq_getElem]

theorem bandRms16_rootOf {w : Nat} {x : List Int} (positive : 0 < w) (whole : w ≤ x.length) :
    let k := x.length / w
    let block (n : Nat) : List Int := (List.range w).map fun a => x.getD (n * w + a) 0
    RootOf (bandRms16 w x)
      (256 * ((List.range k).map fun n => w * ((block n).map fun x => x * x).sum - (block n).sum * (block n).sum).sum)
      (k * (w * w)) := by
  intro k block
  have residual (n : Nat) (hn : n < k) : (blockResidual w ((x.drop (n * w)).take w) : Int) =
      w * ((block n).map fun x => x * x).sum - (block n).sum * (block n).sum := by
    have inside : n * w + w ≤ x.length := by
      rw [← Nat.succ_mul]
      exact (Nat.mul_le_mul_right w hn).trans (Nat.div_mul_le_self ..)
    rw [take_drop_eq_map inside]
    exact variance_cast (by simp)
  have total : ((((blocks w k x).map (blockResidual w)).sum : Nat) : Int) =
      ((List.range k).map fun n => w * ((block n).map fun x => x * x).sum - (block n).sum * (block n).sum).sum := by
    rw [blocks_eq_map, Nat.cast_list_sum, List.map_map, List.map_map]
    exact congrArg List.sum (List.map_congr_left fun n hn => residual n (List.mem_range.mp hn))
  rw [← total]
  exact isqrt_rootOf (256 * ((blocks w k x).map (blockResidual w)).sum)
    (Nat.mul_pos (Nat.div_pos whole positive) (Nat.mul_pos positive positive))

/-! ### The figures of a result -/

theorem meanPeriod16_spec (total : Nat) {m d : Nat} (positive : 0 < m * d) :
    ∃ e, e < m * d ∧ meanPeriod16 total m d * (m * d) + e = 16 * total + m * d / 2 :=
  ⟨_, Nat.mod_lt _ positive, Nat.div_add_mod' ..⟩

/-- C2C_MAX is the largest step in size. -/
theorem reduce_c2cMax {t : List Timestamp} (three : 3 ≤ t.length) (d pnom : Nat) (bands : List Nat) :
    (∀ x ∈ steps (intervals t), x.natAbs ≤ (reduce t d pnom bands).c2cMax) ∧
      ∃ x ∈ steps (intervals t), x.natAbs = (reduce t d pnom bands).c2cMax := by
  have nonempty : (steps (intervals t)).map Int.natAbs ≠ [] :=
    List.ne_nil_of_length_pos (by rw [List.length_map, steps_length, intervals_length]; omega)
  obtain ⟨member, above⟩ := isGreatest_largest nonempty
  exact ⟨fun x hx => above (List.mem_map_of_mem hx), List.mem_map.mp member⟩

/-- Settles O50, figure by figure. -/
theorem figures : Obligations.Figures := by
  intro t d pnom bands three decimation i m total r squares rootOf deviations stepsOf errors offset
  have two : 2 ≤ t.length := by omega
  have length : m = t.length - 1 := intervals_length t
  have positive : 0 < m := by omega
  have steps : steps i = stepsOf := steps_eq_map i
  have errors_eq : captureErrors t = errors := captureErrors_eq two
  have deviations_length : deviations.length = m := by simp [deviations, m]
  have steps_length : stepsOf.length = m - 1 := by rw [← steps]; exact steps_length i
  have errors_length : errors.length = t.length := by rw [← errors_eq]; exact captureErrors_length two
  refine ⟨meanPeriod16_spec total (Nat.mul_pos positive decimation), boundFo_eq offset, reduce_foSat_iff t d pnom bands, ?_, ?_, ?_, ?_, ?_,
    fun b w v e hw least he hv => ?_⟩
  · have root := periodRms16_rootOf (l := deviations) (by omega)
    rw [deviations_length] at root
    exact root
  · have root := rms16_rootOf (l := stepsOf) (by omega)
    rw [steps_length, ← steps] at root
    rw [← steps]
    exact root
  · have root := rms16_rootOf (l := errors) (by omega)
    rw [errors_length, ← errors_eq] at root
    rw [← errors_eq]
    exact root
  · rw [← steps]
    exact reduce_c2cMax three d pnom bands
  · rw [← errors_eq]
    exact reduce_tiePp two d pnom bands
  · cases (reduce_band hw).symm.trans he
    obtain ⟨enough, rfl⟩ := bandResult_present hv
    rw [captureErrors_length two] at enough
    have root := bandRms16_rootOf (w := w) (x := errors) least (by omega)
    rw [errors_length, ← errors_eq] at root
    rw [← errors_eq]
    exact root

end Sys2Proof.ReductionProofs
end

section
namespace Sys2Proof.LimitProofs

open Sys2Proof Sys2Proof.Machine Sys2Proof.LaneProofs

/-! ### READ LIMITS (R140, R179) -/

/-- A sum of powers of two, one for each bit that is set, is the number of those bits. -/
theorem sum_twoPow_eq_ofBits : ∀ {n : Nat} (f : Fin n → Bool),
    ((List.finRange n).map fun i => if f i then 2 ^ i.val else 0).sum = Nat.ofBits f
  | 0, _ => rfl
  | n + 1, f => by
    have doubled : ∀ i : Fin n, (if f i.succ then 2 ^ i.succ.val else 0) = 2 * if (f ∘ Fin.succ) i then 2 ^ i.val else 0 := fun i => by
      rw [Function.comp_apply, Fin.val_succ, Nat.pow_succ']
      split <;> rfl
    have bit : (if f 0 then 2 ^ (0 : Fin (n + 1)).val else 0) = (f 0).toNat := by cases f 0 <;> rfl
    rw [List.finRange_succ, List.map_cons, List.sum_cons, List.map_map, Function.comp_def, funext doubled, List.sum_map_mul_left,
      sum_twoPow_eq_ofBits (f ∘ Fin.succ), Nat.ofBits_succ, bit, Nat.add_comm]

/-- The presence word in its two bytes: bit `i` is field `i`, and the four bits above the fields are clear. -/
def presenceBits (l : LimitSet) : BitVec 16 := (BitVec.ofFnLE fun i : FieldNo => l.fields[i].isSome).setWidth 16

theorem toNat_presenceBits (l : LimitSet) : (presenceBits l).toNat = presenceWord l := by
  rw [presenceBits, BitVec.toNat_setWidth_of_le (by decide), BitVec.toNat_ofFnLE, presenceWord, ← sum_twoPow_eq_ofBits]

theorem getLsbD_presenceBits (l : LimitSet) (i : Fin 16) :
    (presenceBits l).getLsbD i.val = if h : i.val < 12 then l.fields[i.val].isSome else false := by
  rw [presenceBits, BitVec.getLsbD_setWidth, decide_eq_true i.isLt, Bool.true_and, BitVec.getLsbD_ofFnLE]
  rfl

theorem limitsResponse_eq (l : LimitSet) : limitsResponse l =
    ([match l.state with | .empty => 0 | .opened => 1 | .frozen => 2, BitVec.ofNat 8 l.references] : List Byte) ++
      leBytes 2 (presenceBits l).toNat ++ (List.finRange 12).flatMap fun i => leBytes 8 (l.fields[i].getD 0) := by
  rw [limitsResponse, toNat_presenceBits]
  cases l.state <;> rfl

theorem readLimits_bad {s : State} {b : Byte} (h : 7 < b.toNat) : readLimits s [b] = refuse .badValue s := by
  rw [readLimits, byteAt_cons_zero, named_eq_none h]

theorem readLimits_good {s : State} {b : Byte} {x : SetNo} (h : b.toNat = x.val) :
    readLimits s [b] = .answer .success (limitsResponse s.limits[x]) s := by
  rw [readLimits, byteAt_cons_zero, named_eq_some h]

/-- Settles O21, by the rule of READ LIMITS, the layout of its answer and the bits of the presence word. -/
theorem readLimitsAnswer : Obligations.ReadLimitsAnswer := by
  intro s p b
  refine ⟨fun h => takes_of_run rfl (by simp) rfl (readLimits_bad h),
    fun x h => ⟨presenceBits s.limits[x], getLsbD_presenceBits s.limits[x], ?_⟩⟩
  exact takes_of_run rfl (by simp) rfl ((readLimits_good h).trans (congrArg (Reply.answer .success · s) (limitsResponse_eq s.limits[x])))

end Sys2Proof.LimitProofs
end

section
namespace Sys2Proof.LimitProofs

open Sys2Proof Sys2Proof.Machine Sys2Proof.LaneProofs

/-! ### WRITE LIMIT (R133, R136) -/

/-- A field of `k` bytes is read back from its bytes, modulo its range (R175). -/
theorem leValue_leBytes : ∀ k v : Nat, leValue (leBytes k v) = v % 256 ^ k
  | 0, v => (Nat.mod_one v).symm
  | k + 1, v => by
    have low : (BitVec.ofNat 8 v).toNat = v % 256 := BitVec.toNat_ofNat ..
    rw [leBytes, leValue, leValue_leBytes k, low, Nat.pow_succ', Nat.mod_mul]

/-- The payload of a WRITE LIMIT: SET, FIELD, ACTION and an eight-byte VALUE (R175). -/
abbrev limitPayload (a b act : Byte) (v : BitVec 64) : List Byte := [a, b, act] ++ leBytes 8 v.toNat

section

variable {s : State} {a b act : Byte} {v : BitVec 64} {x : SetNo} {i : FieldNo}

theorem limitPayload_set : byteAt (limitPayload a b act v) 0 = a.toNat := byteAt_cons_zero a _

theorem limitPayload_field : byteAt (limitPayload a b act v) 1 = b.toNat := byteAt_cons_zero b _

theorem limitPayload_action : byteAt (limitPayload a b act v) 2 = act.toNat := byteAt_cons_zero act _

theorem limitPayload_value : field (limitPayload a b act v) 3 8 = v.toNat :=
  (leValue_leBytes 8 v.toNat).trans (Nat.mod_eq_of_lt v.isLt)

theorem limitActionOf_remove (i : FieldNo) : limitActionOf (limitPayload a b 0 v) i = some .remove := by
  rw [limitActionOf, limitPayload_action]
  rfl

theorem limitActionOf_set (h : v.toNat ≤ fieldMax i) : limitActionOf (limitPayload a b 1 v) i = some (.set v.toNat) := by
  rw [limitActionOf, limitPayload_action, limitPayload_value]
  exact if_pos h

theorem limitActionOf_above (h : fieldMax i < v.toNat) : limitActionOf (limitPayload a b 1 v) i = none := by
  rw [limitActionOf, limitPayload_action, limitPayload_value]
  exact if_neg (Nat.not_le.mpr h)

theorem limitActionOf_unknown (h : 1 < act.toNat) (i : FieldNo) : limitActionOf (limitPayload a b act v) i = none := by
  rw [limitActionOf, limitPayload_action, if_neg (by omega), if_neg (by omega)]

theorem writeLimit_noAction (named : a.toNat = x.val) (fieldNamed : b.toNat = i.val)
    (unspelt : limitActionOf (limitPayload a b act v) i = none) :
    Machine.writeLimit s (limitPayload a b act v) = refuse .badValue s := by
  rw [Machine.writeLimit, limitPayload_set, limitPayload_field, named_eq_some named, named_eq_some fieldNamed]
  dsimp only
  rw [unspelt]

/-- WRITE LIMIT with a payload that names a set, a field and an action. -/
theorem writeLimit_action {action : LimitAction} (named : a.toNat = x.val) (fieldNamed : b.toNat = i.val)
    (spelt : limitActionOf (limitPayload a b act v) i = some action) :
    Machine.writeLimit s (limitPayload a b act v) =
      if s.limits[x].state = .frozen then refuse .limitsFrozen s else succeed (s.setLimit x (s.limits[x].write i action)) := by
  rw [Machine.writeLimit, limitPayload_set, limitPayload_field, named_eq_some named, named_eq_some fieldNamed]
  dsimp only
  rw [spelt]

theorem writeLimit_bad (h : 7 < a.toNat ∨ 11 < b.toNat ∨ 1 < act.toNat) :
    Machine.writeLimit s (limitPayload a b act v) = refuse .badValue s := by
  by_cases ha : 7 < a.toNat
  · rw [Machine.writeLimit, limitPayload_set, named_eq_none ha]
  by_cases hb : 11 < b.toNat
  · rw [Machine.writeLimit, limitPayload_set, limitPayload_field, named_eq_none hb]
    cases named 8 a.toNat <;> rfl
  · exact writeLimit_noAction (x := ⟨a.toNat, by omega⟩) (i := ⟨b.toNat, by omega⟩) rfl rfl
      (limitActionOf_unknown ((h.resolve_left ha).resolve_left hb) _)

theorem writeLimit_takes {t : State} {status : Status} (answers : Machine.writeLimit s (limitPayload a b act v) = .answer status [] t) :
    s.takes .writeLimit 0x26 0 (limitPayload a b act v) t status [] :=
  takes_of_run rfl (by simp [leBytes]) rfl answers

end

/-- The largest values of the limit fields as the table of R133 lists them. -/
theorem fieldMax_eq (i : FieldNo) : fieldMax i =
    [65535, 2147483647, 2 ^ 48 - 1, 2 ^ 40 - 1, 2 ^ 48 - 1, 2 ^ 40 - 1, 2 ^ 56 - 1, 2 ^ 56 - 1, 2 ^ 56 - 1, 2 ^ 56 - 1,
      2 ^ 56 - 1, 2 ^ 56 - 1].getD i.val 0 := by
  revert i
  decide

/-- Settles O52, by the bytes of the payload and the action they spell. -/
theorem writeLimit : Obligations.WriteLimit := by
  intro s a b act v payload largest
  refine ⟨fun bad => writeLimit_takes (writeLimit_bad bad), fun x i set field => ?_⟩
  have largest_eq : largest i = fieldMax i := (fieldMax_eq i).symm
  refine ⟨fun isSet above => ?_, fun inRange => ?_⟩
  · subst isSet
    exact writeLimit_takes (writeLimit_noAction set field (limitActionOf_above (largest_eq ▸ above)))
  · obtain ⟨action, spelt, result⟩ : ∃ action, limitActionOf payload i = some action ∧
        action.result = if act = 1 then some v.toNat else none := by
      obtain rfl | ⟨rfl, below⟩ := inRange
      · exact ⟨.remove, limitActionOf_remove i, rfl⟩
      · exact ⟨.set v.toNat, limitActionOf_set (largest_eq ▸ below), rfl⟩
    refine ⟨fun frozen => writeLimit_takes ?_, fun unfrozen => writeLimit_takes ?_⟩
    · rw [writeLimit_action set field spelt, if_pos frozen]
      rfl
    · rw [writeLimit_action set field spelt, if_neg unfrozen, ← result]
      rfl

end Sys2Proof.LimitProofs
end

section
namespace Sys2Proof.LimitProofs

open Sys2Proof Sys2Proof.Machine Sys2Proof.LaneProofs

/-! ### FREEZE and THAW (R137, R138) -/

section

variable {s : State} {b : Byte} {x : SetNo}

theorem freeze_bad (h : 7 < b.toNat) : freeze s [b] = refuse .badValue s := by
  rw [freeze, byteAt_cons_zero, named_eq_none h]

theorem thaw_bad (h : 7 < b.toNat) : thaw s [b] = refuse .badValue s := by
  rw [thaw, byteAt_cons_zero, named_eq_none h]

theorem freeze_empty (set : b.toNat = x.val) (empty : s.limits[x].state = .empty) : freeze s [b] = refuse .limitsEmpty s := by
  rw [freeze, byteAt_cons_zero, named_eq_some set]
  dsimp only
  rw [empty]

theorem freeze_opened (set : b.toNat = x.val) (opened : s.limits[x].state = .opened) :
    freeze s [b] = succeed (s.setLimit x { s.limits[x] with state := .frozen }) := by
  rw [freeze, byteAt_cons_zero, named_eq_some set]
  dsimp only
  rw [opened]

theorem freeze_frozen (set : b.toNat = x.val) (frozen : s.limits[x].state = .frozen) : freeze s [b] = succeed s := by
  rw [freeze, byteAt_cons_zero, named_eq_some set]
  dsimp only
  rw [frozen]

theorem thaw_unfrozen (set : b.toNat = x.val) (unfrozen : s.limits[x].state ≠ .frozen) : thaw s [b] = succeed s := by
  rw [thaw, byteAt_cons_zero, named_eq_some set]
  dsimp only
  split
  · rfl
  · rfl
  · exact absurd ‹_› unfrozen

theorem thaw_frozen (set : b.toNat = x.val) (frozen : s.limits[x].state = .frozen) :
    thaw s [b] = if 0 < s.limits[x].references then refuse .limitsInUse s
      else succeed (s.setLimit x { s.limits[x] with state := .opened }) := by
  rw [thaw, byteAt_cons_zero, named_eq_some set]
  dsimp only
  rw [frozen]

theorem freeze_takes {t : State} {status : Status} (answers : freeze s [b] = .answer status [] t) :
    s.takes .freeze 0x27 0 [b] t status [] := takes_of_run rfl (by simp) rfl answers

theorem thaw_takes {t : State} {status : Status} (answers : thaw s [b] = .answer status [] t) :
    s.takes .thaw 0x28 0 [b] t status [] := takes_of_run rfl (by simp) rfl answers

end

/-- Settles O53, by the state of the set. -/
theorem freezeAndThaw : Obligations.FreezeAndThaw := by
  intro s b frozen thawed
  refine ⟨fun bad => ⟨freeze_takes (freeze_bad bad), thaw_takes (thaw_bad bad)⟩, fun x set => ?_⟩
  intro become
  refine ⟨fun empty => ?_, fun opened => ?_, fun isFrozen =>
    ⟨freeze_takes (freeze_frozen set isFrozen), fun inUse => ?_, fun unused => ?_⟩⟩
  · exact ⟨freeze_takes (freeze_empty set empty), thaw_takes (thaw_unfrozen set (by rw [empty]; nofun))⟩
  · exact ⟨freeze_takes (freeze_opened set opened), thaw_takes (thaw_unfrozen set (by rw [opened]; nofun))⟩
  · exact thaw_takes ((thaw_frozen set isFrozen).trans (if_pos inUse))
  · exact thaw_takes ((thaw_frozen set isFrozen).trans (if_neg (by omega)))

end Sys2Proof.LimitProofs
end

section
namespace Sys2Proof.LimitProofs

open Sys2Proof Sys2Proof.Machine

/-! ### The Binner (R142 to R145) -/

/-- The verdict of the first test of a list that fails, none when every test is met. -/
def firstOf (tests : List (Bool × Verdict)) : Option Verdict := (tests.find? Prod.fst).map Prod.snd

theorem firstOf_append (tests rest : List (Bool × Verdict)) : firstOf (tests ++ rest) = (firstOf tests).or (firstOf rest) := by
  rw [firstOf, List.find?_append, Option.map_or]
  rfl

/-- The first failure among groups of tests is that of the tests one after another. -/
theorem firstFailure_map_firstOf : ∀ groups : List (List (Bool × Verdict)),
    firstFailure (groups.map firstOf) = (firstOf groups.flatten).getD ⟨.pass, none, none⟩
  | [] => rfl
  | tests :: groups => by
    rw [List.flatten_cons, firstOf_append, List.map_cons]
    cases firstOf tests with
    | none => exact firstFailure_map_firstOf groups
    | some v => rfl

/-- A present limit is exceeded by a figure. -/
def above (limit : Option Nat) (figure : Nat) : Bool := limit.any fun m => decide (m < figure)

/-- The test of one figure against its limit (R142). -/
def figureTests (limit : Option Nat) (figure : Nat) (bin : Bin) (test : FailedTest) : List (Bool × Verdict) :=
  [(above limit figure, ⟨bin, some test, none⟩)]

/-- The two ways a band limit fails, on an absent band and on a larger figure (R145). -/
def bandTests (limit figure : Option Nat) (b : Fin 4) : List (Bool × Verdict) :=
  [(limit.isSome && figure.isNone, ⟨.incomplete, some .bandRms16Max, some b⟩),
    (figure.any (above limit), ⟨.band, some .bandRms16Max, some b⟩)]

/-- The figure of the band at a position, none when the band is absent from the result. -/
def bandFigure (r : Result) (b : Fin 4) : Option Nat := r.bands[b.val]?.bind BandResult.rms16

theorem exceeds_eq (limit : Option Nat) (figure : Nat) (bin : Bin) (test : FailedTest) :
    exceeds limit figure bin test = firstOf (figureTests limit figure bin test) := by
  cases limit with
  | none => rfl
  | some m => by_cases h : m < figure <;> simp [exceeds, firstOf, figureTests, above, h]

theorem bandTest_eq (limit : Option Nat) (r : Result) (b : Fin 4) :
    bandTest limit r b = firstOf (bandTests limit (bandFigure r b) b) := by
  cases limit with
  | none => cases bandFigure r b <;> rfl
  | some m =>
    rw [bandTest, ← bandFigure]
    cases bandFigure r b with
    | none => rfl
    | some x => by_cases h : m < x <;> simp [firstOf, bandTests, above, h]

/-- The tests of R143 in their order, in the thirteen groups of the Binner's list. -/
def testGroups (f : Vector (Option Nat) 12) (runts : Nat) (r : Result) : List (List (Bool × Verdict)) :=
  [[(decide (0 < r.slips), ⟨.edge, some .slips, none⟩)], figureTests f[0] runts .edge .runtMax,
    figureTests f[1] r.fo.natAbs .freq .foMax, figureTests f[2] r.pjRms16 .period .pjRms16Max,
    figureTests f[3] r.pjPp .period .pjPpMax, figureTests f[4] r.c2cRms16 .c2c .c2cRms16Max,
    figureTests f[5] r.c2cMax .c2c .c2cMaxMax, figureTests f[6] r.tieRms16 .tie .tieRms16Max,
    figureTests f[7] r.tiePp .tie .tiePpMax, bandTests f[8] (bandFigure r 0) 0, bandTests f[9] (bandFigure r 1) 1,
    bandTests f[10] (bandFigure r 2) 2, bandTests f[11] (bandFigure r 3) 3]

theorem binTests_eq (f : Vector (Option Nat) 12) (runts : Nat) (r : Result) : binTests f runts r = (testGroups f runts r).map firstOf := by
  have slips : (if 0 < r.slips then some ⟨.edge, some .slips, none⟩ else none) =
      firstOf [(decide (0 < r.slips), ⟨.edge, some .slips, none⟩)] := by
    by_cases h : 0 < r.slips <;> simp [firstOf, h]
  simp only [binTests, testGroups, List.map_cons, List.map_nil, slips, exceeds_eq, bandTest_eq]

/-! ### When the verdict is PASS (R144, R145) -/

/-- Where a failing test names another bin, the verdict is PASS exactly when the first test is met and the rest gives PASS. -/
theorem firstFailure_cons_pass {o : Option Verdict} (other : ∀ v ∈ o, v.bin ≠ .pass) (l : List (Option Verdict)) :
    (firstFailure (o :: l)).bin = .pass ↔ o = none ∧ (firstFailure l).bin = .pass := by
  cases o with
  | none => exact ⟨fun rest => ⟨rfl, rest⟩, And.right⟩
  | some v => exact iff_of_false (other v rfl) nofun

/-- A limit is met by a figure: it is absent or not exceeded (R142). -/
def Meets (limit : Option Nat) (figure : Nat) : Prop := ∀ m, limit = some m → figure ≤ m

/-- A band limit is met: it is absent, or the band is present and does not exceed it (R145). -/
def BandMeets (limit figure : Option Nat) : Prop := ∀ m, limit = some m → ∃ x, figure = some x ∧ x ≤ m

theorem exceeds_eq_none_iff {limit : Option Nat} {figure : Nat} {bin : Bin} {test : FailedTest} :
    exceeds limit figure bin test = none ↔ Meets limit figure := by
  cases limit with
  | none => simp [exceeds, Meets]
  | some m => simp [exceeds, Meets]

theorem exceeds_bin {limit : Option Nat} {figure : Nat} {bin : Bin} {test : FailedTest} {v : Verdict}
    (fails : v ∈ exceeds limit figure bin test) : v.bin = bin := by
  unfold exceeds at fails
  split at fails
  · cases fails
  · split at fails <;> cases fails
    rfl

theorem bandTest_eq_none_iff {limit : Option Nat} {r : Result} {b : Fin 4} :
    bandTest limit r b = none ↔ BandMeets limit (bandFigure r b) := by
  cases limit with
  | none => simp [bandTest, BandMeets]
  | some m =>
    rw [bandTest, ← bandFigure]
    cases bandFigure r b with
    | none => simp [BandMeets]
    | some x => simp [BandMeets]

theorem bandTest_bin {limit : Option Nat} {r : Result} {b : Fin 4} {v : Verdict} (fails : v ∈ bandTest limit r b) :
    v.bin = .incomplete ∨ v.bin = .band := by
  unfold bandTest at fails
  split at fails
  · cases fails
  · split at fails
    · cases fails
      exact .inl rfl
    · split at fails <;> cases fails
      exact .inr rfl

section

variable {limit : Option Nat} (l : List (Option Verdict))

theorem slips_pass (r : Result) : (firstFailure ((if 0 < r.slips then some ⟨.edge, some .slips, none⟩ else none) :: l)).bin = .pass ↔
    r.slips = 0 ∧ (firstFailure l).bin = .pass := by
  refine (firstFailure_cons_pass (fun v fails => ?_) l).trans (and_congr_left' ?_)
  · split at fails <;> cases fails
    nofun
  · simp

theorem exceeds_pass {figure : Nat} {bin : Bin} {test : FailedTest} (other : bin ≠ .pass) :
    (firstFailure (exceeds limit figure bin test :: l)).bin = .pass ↔ Meets limit figure ∧ (firstFailure l).bin = .pass :=
  (firstFailure_cons_pass (fun _ fails => exceeds_bin fails ▸ other) l).trans (and_congr_left' exceeds_eq_none_iff)

theorem bandTest_pass {r : Result} {b : Fin 4} :
    (firstFailure (bandTest limit r b :: l)).bin = .pass ↔ BandMeets limit (bandFigure r b) ∧ (firstFailure l).bin = .pass :=
  (firstFailure_cons_pass (fun _ fails => by rcases bandTest_bin fails with h | h <;> rw [h] <;> nofun) l).trans
    (and_congr_left' bandTest_eq_none_iff)

end

/-- The Binner gives PASS exactly when there is no slip and every limit is met. -/
theorem firstFailure_binTests_pass (f : Vector (Option Nat) 12) (runts : Nat) (r : Result) :
    (firstFailure (binTests f runts r)).bin = .pass ↔ r.slips = 0 ∧ Meets f[0] runts ∧ Meets f[1] r.fo.natAbs ∧
      Meets f[2] r.pjRms16 ∧ Meets f[3] r.pjPp ∧ Meets f[4] r.c2cRms16 ∧ Meets f[5] r.c2cMax ∧ Meets f[6] r.tieRms16 ∧
      Meets f[7] r.tiePp ∧ BandMeets f[8] (bandFigure r 0) ∧ BandMeets f[9] (bandFigure r 1) ∧ BandMeets f[10] (bandFigure r 2) ∧
      BandMeets f[11] (bandFigure r 3) := by
  have pass : (firstFailure []).bin = .pass := rfl
  simp only [binTests, slips_pass, exceeds_pass, bandTest_pass, pass, ne_eq, reduceCtorEq, not_false_eq_true, and_true]

/-- Settles O54: the Binner's tests are those of R143 in groups, and each test is met exactly as R142 and R145 say. -/
theorem binnerOrder : Obligations.BinnerOrder := by
  intro f runts r
  refine ⟨?_, firstFailure_binTests_pass f runts r⟩
  rw [binTests_eq, firstFailure_map_firstOf]
  rfl

end Sys2Proof.LimitProofs
end

section
namespace Sys2Proof.QueueProofs

open Sys2Proof Sys2Proof.Machine Sys2Proof.LaneProofs Sys2Proof.JobProofs

/-! ### Service records that wait (R152) -/

/-- How many service records may wait behind the queue of `p` (R152). -/
abbrev serviceBound (p : PortNo) : Nat := if p = 0 then Config.serviceWaiting else 0

theorem dropOldestService_countP (w : List Waiting) :
    (dropOldestService w).countP Waiting.isService = w.countP Waiting.isService - 1 := by
  induction w with
  | nil => rfl
  | cons x w ih =>
    rw [dropOldestService]
    split
    · rename_i service
      rw [List.countP_cons_of_pos service, Nat.add_sub_cancel]
    · rename_i job
      rw [List.countP_cons_of_neg job, List.countP_cons_of_neg job, ih]

/-- At most four service records wait after another has joined them: with four of them the oldest makes way (R152). -/
theorem joinService_countP {w : List Waiting} (r : ServiceReport) (bound : w.countP Waiting.isService ≤ Config.serviceWaiting) :
    (joinService w r).countP Waiting.isService ≤ Config.serviceWaiting := by
  have one (d : Bool) : [Waiting.service r d].countP Waiting.isService = 1 := rfl
  rw [Config.serviceWaiting] at bound ⊢
  unfold joinService
  split
  · rw [List.countP_append, dropOldestService_countP, one]
    omega
  · rename_i few
    rw [List.countP_append, one]
    exact Nat.not_le.mp few

/-! ### One queue changes (R148, R150 to R152, R155, R156) -/

section

variable {s t : State} {p : PortNo}

/-- Where the queue of one port alone changes, the agreement hangs on that queue. -/
theorem queuesAgree_of_one (h : s.queuesAgree) (reflost : t.ref.reflost = s.ref.reflost)
    (others : ∀ m, m ≠ p → t.queues[m] = s.queues[m]) (own : t.queueAgrees p) : t.queuesAgree := by
  intro m
  by_cases hm : m = p
  · exact hm ▸ own
  · rw [State.queueAgrees, others m hm, reflost]
    exact h m

/-- A queue that had room, with nothing waiting, agrees with a record at its tail and ATTN asserted (R150, R155). -/
theorem queueAgrees_entered (admits : s.queues[p].admits = true) {r : Record}
    (entered : t.queues[p] = ⟨s.queues[p].queue ++ [r], s.queues[p].waiting, true⟩) : t.queueAgrees p := by
  obtain ⟨room, nothing⟩ := admits_iff.mp admits
  rw [State.queueAgrees, entered, nothing, List.length_append]
  exact ⟨room, fun waits => absurd rfl waits, Nat.zero_le _, (attnLevel_entered p _ r _).symm⟩

/-- A completion that is not admitted finds 8 records in the queue (R150, R151). -/
theorem full_of_not_admits (h : s.queueAgrees p) (full : ¬ s.queues[p].admits = true) :
    s.queues[p].queue.length = Config.queueDepth := by
  obtain ⟨depth, behind, -, -⟩ := h
  rw [admits_iff] at full
  by_cases waits : s.queues[p].waiting = []
  · exact le_antisymm depth (Nat.not_lt.mp fun room => full ⟨room, waits⟩)
  · exact behind waits

/-- A queue that admits nothing keeps agreeing whatever else waits behind it, within the bound on service records. -/
theorem queueAgrees_waits (h : s.queueAgrees p) (full : ¬ s.queues[p].admits = true) (reflost : t.ref.reflost = s.ref.reflost)
    {w : List Waiting} (waits : t.queues[p] = { s.queues[p] with waiting := w })
    (services : w.countP Waiting.isService ≤ serviceBound p) : t.queueAgrees p := by
  have depth := full_of_not_admits h full
  rw [State.queueAgrees, waits, reflost]
  obtain ⟨-, -, -, attn⟩ := h
  exact ⟨Nat.le_of_eq depth, fun _ => depth, services, attn⟩

/-- The end of a job keeps the queues in agreement: its record enters where there is room, else it waits and is no service record. -/
theorem ended_queuesAgree {i : SlotNo} {done : Job} (h : s.queuesAgree) (ends : ended s t i done)
    (reflost : t.ref.reflost = s.ref.reflost) : t.queuesAgree := by
  obtain ⟨-, -, others, -, enters, waits⟩ := ends
  refine queuesAgree_of_one h reflost (fun m hm => (others m hm).1) ?_
  by_cases admits : s.queues[done.port].admits = true
  · obtain ⟨-, -, entered⟩ := enters admits
    exact queueAgrees_entered admits entered
  · obtain ⟨-, -, queued⟩ := waits admits
    obtain ⟨-, -, services, -⟩ := h done.port
    refine queueAgrees_waits (h done.port) admits reflost queued ?_
    rw [List.countP_append]
    exact services

end

section

variable {s : State} (h : s.queuesAgree)

include h

theorem completeJob_queuesAgree (i : SlotNo) (o : EndOutcome) (v : Verdict) : (s.completeJob i o v).queuesAgree := by
  cases hj : s.jobAt i with
  | none => rwa [completeJob_of_none hj]
  | some j => exact ended_queuesAgree h (completeJob_ended hj o v) (by rw [State.completeJob_ref])

omit h in
theorem completeAll_queuesAgree (o : EndOutcome) (l : List SlotNo) {s : State} (h : s.queuesAgree) : (s.completeAll o l).queuesAgree := by
  induction l generalizing s with
  | nil => exact h
  | cons i l ih => exact ih (completeJob_queuesAgree h i o .aborted)

theorem offerService_queuesAgree (r : ServiceReport) : (s.offerService r).queuesAgree := by
  unfold State.offerService
  split
  · rename_i admits
    refine queuesAgree_of_one (p := 0) h rfl (fun m hm => (enterRecord_queues ..).trans (if_neg hm.symm)) ?_
    exact queueAgrees_entered admits ((enterRecord_queues ..).trans (if_pos rfl))
  · rename_i full
    obtain ⟨-, -, services, -⟩ := h 0
    refine queuesAgree_of_one (p := 0) h rfl (fun m hm => (State.setQueue_queues_get ..).trans (if_neg hm.symm)) ?_
    exact queueAgrees_waits (h 0) full rfl ((State.setQueue_queues_get ..).trans (if_pos rfl)) (joinService_countP r services)

/-- ATTN of P0 follows REFLOST where that changes, and a station's ATTN does not depend on it (R155, R156). -/
theorem setRef_queuesAgree (r : RefMonitor) : ({ s with ref := r }.refreshAttn 0 : State).queuesAgree := by
  intro p
  obtain ⟨depth, behind, services, attn⟩ := h p
  by_cases hp : (0 : PortNo) = p
  · subst hp
    rw [State.queueAgrees, State.refreshAttn, State.setQueue_queues_get, if_pos rfl]
    exact ⟨depth, behind, services, rfl⟩
  · rw [State.queueAgrees, State.refreshAttn, State.setQueue_queues_get, if_neg hp]
    refine ⟨depth, behind, services, attn.trans ?_⟩
    rw [attnLevel, attnLevel, decide_eq_false (Ne.symm hp)]
    rfl

theorem emptyQueue_queuesAgree (p : PortNo) : (s.emptyQueue p).queuesAgree := by
  refine queuesAgree_of_one (p := p) h rfl (fun m hm => (State.setQueue_queues_get ..).trans (if_neg hm.symm)) ?_
  rw [State.queueAgrees, State.emptyQueue, State.setQueue_queues_get, if_pos rfl]
  exact ⟨Nat.zero_le _, fun waits => absurd rfl waits, Nat.zero_le _, rfl⟩

end

/-! ### The head of a queue leaves (R153) -/

theorem retire_queues (s : State) (i : SlotNo) (j : Job) : (s.retire i j).queues = s.queues := by
  obtain ⟨-, -, -, queues, -⟩ := retire_eq s i j
  exact queues

/-- What room in the queue of `p` makes of the queues: nothing that waits makes a record, or the first that does enters and those behind
it go on waiting (R151, entry 21). -/
theorem admitWaiting_queues (s : State) (p : PortNo) (w : List Waiting) :
    (s.admitWaiting p w).queues = (s.setWaiting p []).queues ∨
      ∃ x r w', x :: w' <:+ w ∧ (s.admitWaiting p w).queues = ((s.setWaiting p w').enterRecord p r).queues := by
  induction w with
  | nil => exact .inl rfl
  | cons x w ih =>
    have skipped : (s.admitWaiting p w).queues = (s.setWaiting p []).queues ∨
        ∃ x' r w', x' :: w' <:+ x :: w ∧ (s.admitWaiting p w).queues = ((s.setWaiting p w').enterRecord p r).queues :=
      ih.imp_right fun ⟨x', r, w', behind, entered⟩ => ⟨x', r, w', behind.trans (List.suffix_cons x w), entered⟩
    cases x with
    | service r d => exact .inr ⟨_, _, w, List.suffix_rfl, rfl⟩
    | job g =>
      cases found : s.lookup g with
      | none => rwa [State.admitWaiting, found]
      | some j =>
        rw [State.admitWaiting, found]
        dsimp only
        split
        · exact .inr ⟨_, _, w, List.suffix_rfl, retire_queues _ g.slot j⟩
        · exact skipped

/-- With its ATTN refreshed a queue agrees if it holds at most 8 records and what waits is behind 8 of them. -/
theorem refreshAttn_queuesAgree {s t : State} {p : PortNo} {q : PortQueue} (h : s.queuesAgree)
    (queues : t.queues = (s.setQueue p q).queues) (reflost : t.ref.reflost = s.ref.reflost) (depth : q.queue.length ≤ Config.queueDepth)
    (behind : q.waiting ≠ [] → q.queue.length = Config.queueDepth)
    (services : q.waiting.countP Waiting.isService ≤ serviceBound p) : (t.refreshAttn p).queuesAgree := by
  refine queuesAgree_of_one (p := p) h reflost (fun m hm => ?_) ?_
  · rw [State.refreshAttn, State.setQueue_queues_get, if_neg hm.symm, queues, State.setQueue_queues_get, if_neg hm.symm]
  · rw [State.queueAgrees, State.refreshAttn, State.setQueue_queues_get, if_pos rfl, queues, State.setQueue_queues_get, if_pos rfl]
    exact ⟨depth, behind, services, rfl⟩

/-- Taking the head record makes room for one record, which the first that waits fills (R151, R153). -/
theorem dropHead_queuesAgree {s : State} (h : s.queuesAgree) {p : PortNo} {r : Record} {rest : List Record}
    (head : s.queues[p].queue = r :: rest) : (s.dropHead p rest).queuesAgree := by
  obtain ⟨depth, behind, services, -⟩ := h p
  rw [head, List.length_cons] at depth behind
  let u := s.setQueue p { s.queues[p] with queue := rest }
  have reflost : (u.admitWaiting p s.queues[p].waiting).ref.reflost = s.ref.reflost := by
    obtain ⟨_, _, _, _, frame⟩ := u.admitWaiting_frame p s.queues[p].waiting
    rw [frame]
    rfl
  obtain nothing | ⟨x, r', w, suffix, entered⟩ := admitWaiting_queues u p s.queues[p].waiting
  · rw [setWaiting_setQueue] at nothing
    exact refreshAttn_queuesAgree h nothing reflost (Nat.le_of_succ_le depth) (fun waits => absurd rfl waits) (Nat.zero_le _)
  · rw [setWaiting_setQueue, enterRecord_setQueue] at entered
    have length : (rest ++ [r']).length = Config.queueDepth := by
      rw [List.length_append, List.length_singleton]
      exact behind fun nothing => by
        rw [nothing] at suffix
        cases List.suffix_nil.mp suffix
    exact refreshAttn_queuesAgree h entered reflost (Nat.le_of_eq length) (fun _ => length)
      ((((List.suffix_cons x w).trans suffix).sublist.countP_le).trans services)

end Sys2Proof.QueueProofs
end

section
namespace Sys2Proof.QueueProofs

open Sys2Proof Sys2Proof.Machine Sys2Proof.LaneProofs Sys2Proof.JobProofs

/-! ### Operations that leave queues and REFLOST alone -/

section

variable {s : State} (h : s.queuesAgree)

include h

theorem arbitrate_queuesAgree : s.arbitrate.queuesAgree := by
  obtain ⟨_, _, _, _, frame⟩ := s.arbitrate_frame
  rwa [frame]

theorem afterAcquisition_queuesAgree : s.afterAcquisition.queuesAgree := by
  obtain ⟨_, _, _, _, _, frame⟩ := s.afterAcquisition_frame
  rwa [frame]

theorem takeHead_queuesAgree : s.takeHead.queuesAgree := by
  obtain ⟨_, _, _, frame⟩ := s.takeHead_frame
  rwa [frame]

theorem withdraw_queuesAgree (i : SlotNo) (j : Job) : (s.withdraw i j).queuesAgree := by
  obtain ⟨_, _, _, _, _, frame⟩ := s.withdraw_frame i j
  rwa [frame]

theorem stopChannel_queuesAgree (c : ChannelNo) : (s.stopChannel c).queuesAgree := by
  obtain ⟨_, _, _, frame⟩ := s.stopChannel_frame c
  rwa [frame]

theorem discardAll_queuesAgree (l : List SlotNo) : (l.foldl State.discard s).queuesAgree := by
  obtain ⟨_, _, _, _, _, _, _, _, _, frame⟩ := State.discardAll_frame l s
  rwa [frame]

theorem accept_queuesAgree (p : PortNo) (i : SlotNo) (j : Job) : (s.accept p i j).queuesAgree := by
  obtain ⟨_, frame⟩ := State.addReference_frame
    (({ s with seqCounter := s.seqCounter + 1 }.setJob i j).takePages j.basePage (pagesFor j.n) (s.handleAt i)) j.limitSet
  rw [State.accept, frame]
  exact h

theorem inputChanges_queuesAgree (k : LaneNo) : (s.inputChanges k).queuesAgree := by
  unfold State.inputChanges State.countRunt
  dsimp only
  split
  · exact h
  · split
    · split
      · rename_i g _
        obtain ⟨_, frame⟩ := State.modifyJob_frame (s.setLane k _) g.slot _
        rw [frame]
        exact h
      · exact h
    · exact h

/-! ### Ends of checks, fills and jobs -/

theorem endCheck_queuesAgree (o : EndOutcome) : (s.endCheck o).queuesAgree := offerService_queuesAgree (s := s.dropCheck) h _

theorem endFill_queuesAgree (o : EndOutcome) : (s.endFill o).queuesAgree :=
  offerService_queuesAgree (s := { s with fill := { s.fill with running := false } }) h _

theorem cancelJob_queuesAgree (i : SlotNo) (j : Job) : (s.cancelJob i j).queuesAgree := by
  have cancelled := completeJob_queuesAgree (withdraw_queuesAgree h i j) i .cancelled .aborted
  unfold State.cancelJob
  dsimp only
  split
  · exact afterAcquisition_queuesAgree cancelled
  · exact takeHead_queuesAgree cancelled
  all_goals exact cancelled

theorem completeReduction_queuesAgree (i : SlotNo) (j : Job) : (s.completeReduction i j).queuesAgree := by
  rw [State.completeReduction]
  refine takeHead_queuesAgree (s := { State.completeJob _ _ _ _ with current := none }) ?_
  exact completeJob_queuesAgree (s := s.setJob i _) h i .done _

theorem portReset_queuesAgree (p : PortNo) : (s.portReset p).queuesAgree := by
  have reset := takeHead_queuesAgree (emptyQueue_queuesAgree (discardAll_queuesAgree h (s.oldestFirst fun _ j => decide (j.port = p))) p)
  unfold State.portReset
  dsimp only
  split
  · exact afterAcquisition_queuesAgree reset
  · exact reset

theorem rewriteLane_queuesAgree (k : LaneNo) (new : LaneConfig) : (s.rewriteLane k new).queuesAgree := by
  have offline : ((s.setLane k { s.lanes[k] with config := new }).endQueuedOn k).queuesAgree :=
    completeAll_queuesAgree .laneOffline _ (s := s.setLane k _) h
  unfold State.rewriteLane
  dsimp only
  split <;> split
  · exact arbitrate_queuesAgree offline
  · exact arbitrate_queuesAgree (s := s.setLane k _) h
  · exact offline
  · exact h

theorem visitLane_queuesAgree (k : LaneNo) : (s.visitLane k).queuesAgree := by
  unfold State.visitLane
  split
  · exact rewriteLane_queuesAgree (s := { s with fill := { s.fill with next := s.fill.next + 1, written := s.fill.written + 1 } }) h k _
  · exact h

/-! ### Events of the part's own timers -/

theorem edgeComes_queuesAgree {t : State} {c : ChannelNo} {fine : Fine} (ht : s.edgeComes c fine = .next t) : t.queuesAgree := by
  obtain ⟨_, _, _, _, _, _, _, _, frame⟩ := edgeComes_frame ht
  rw [frame]
  exact h

theorem referenceLocks_queuesAgree : s.referenceLocks.queuesAgree := by
  unfold State.referenceLocks
  split
  · exact arbitrate_queuesAgree (s := { s with ref := s.ref.lock }) h
  · exact h

theorem timerExpires_queuesAgree (c : ChannelNo) : (s.timerExpires c).queuesAgree := by
  unfold State.timerExpires
  split
  · split
    · exact afterAcquisition_queuesAgree (completeJob_queuesAgree (stopChannel_queuesAgree h c) _ .noEdges .aborted)
    · exact h
  · exact h

theorem calEdgeComes_queuesAgree (e0 e1 e2 e3 : Int) : (s.calEdgeComes e0 e1 e2 e3).queuesAgree := by
  unfold State.calEdgeComes
  split
  · dsimp only
    split
    · rw [State.passCheck]
      exact arbitrate_queuesAgree (endCheck_queuesAgree (s := { s.emitCalEdge _ with service := _ }) h .done)
    · exact h
  · exact h

/-- A loss of reference sets REFLOST and P0's ATTN with it, and ends acquisitions and check by records that are offered (R9, R90, R168). -/
theorem loseReference_queuesAgree : s.loseReference.queuesAgree := by
  have ended : ({ s with ref := s.ref.lose }.refreshAttn 0 : State).endAcquisitions.queuesAgree := by
    obtain ⟨_, _, _, stopped⟩ := stopAll_frame (State.acquiringChannels _) ({ s with ref := s.ref.lose }.refreshAttn 0 : State)
    rw [State.endAcquisitions, stopped]
    exact completeAll_queuesAgree .refLost _ (setRef_queuesAgree h s.ref.lose)
  have checked : ({ s with ref := s.ref.lose }.refreshAttn 0 : State).endAcquisitions.endCheckIfRunning.queuesAgree := by
    unfold State.endCheckIfRunning
    split
    · exact endCheck_queuesAgree ended .refLost
    · exact ended
  exact afterAcquisition_queuesAgree (s := { State.endCheckIfRunning _ with ref := _ }) checked

theorem absenceComes_queuesAgree : s.absenceComes.queuesAgree := by
  unfold State.absenceComes State.absenceExpires
  split
  · dsimp only
    split
    · exact h
    · exact h
    · exact loseReference_queuesAgree (s := { s.reach s.ref.expiryPlace with ref := _ }) h
  · exact h

theorem refinRises_queuesAgree : s.refinRises.queuesAgree := by
  unfold State.refinRises
  dsimp only
  split <;> exact h

theorem lineTimeAdvances_queuesAgree : s.lineTimeAdvances.queuesAgree := by
  unfold State.lineTimeAdvances
  split <;> exact h

theorem lineTimeRcAdvances_queuesAgree : s.lineTimeRcAdvances.queuesAgree := by
  unfold State.lineTimeRcAdvances
  split <;> exact h

end

theorem take_queuesAgree (e : TimedEvent) (s t : State) (ht : e.take s = .next t) (h : s.queuesAgree) : t.queuesAgree := by
  cases e with
  | edge c fine => exact edgeComes_queuesAgree h ht
  | lock => cases ht; exact referenceLocks_queuesAgree h
  | starvation c => cases ht; exact timerExpires_queuesAgree h c
  | calEdge => cases ht; exact calEdgeComes_queuesAgree h _ _ _ _
  | rcLineTime => cases ht; exact lineTimeRcAdvances_queuesAgree h
  | absence => cases ht; exact absenceComes_queuesAgree h
  | lineTime => cases ht; exact lineTimeAdvances_queuesAgree h

theorem reach_queuesAgree (s : State) (fine : Fine) (h : s.queuesAgree) : (s.reach fine).queuesAgree := h

theorem tick_queuesAgree (s : State) (h : s.queuesAgree) : s.tick.queuesAgree := by
  intro p
  rw [State.queueAgrees, State.tick_queues, tick_ref, refTick_reflost]
  exact h p

section

variable {s t : State}

/-- A command's own event, after what is due before its place. -/
theorem afterPassTo_queuesAgree {place : Fine} {f : State → Host.Outcome State Fault Refusal}
    (ht : andThen (s.passTo place) f = .next t) (h : s.queuesAgree)
    (own : ∀ u : State, u.queuesAgree → f u = .next t → t.queuesAgree) : t.queuesAgree := by
  obtain ⟨u, hu, hf⟩ := andThen_eq_next.mp ht
  exact own u (State.passTo_keeps reach_queuesAgree (fun e _ => take_queuesAgree e.2) hu h) hf

/-- The same for an event that can come only where `due` holds. -/
theorem timedCommand_queuesAgree {due : Prop} [Decidable due] {place : Fine} {f : State → State}
    (ht : (if due then andThen (s.passTo place) fun u => .next (f u) else .next s) = .next t) (h : s.queuesAgree)
    (own : ∀ u : State, u.queuesAgree → (f u).queuesAgree) : t.queuesAgree := by
  split at ht
  · exact afterPassTo_queuesAgree ht h fun u hu hf => by cases hf; exact own u hu
  · cases ht
    exact h

theorem idle_queuesAgree (ht : s.idle = .next t) (h : s.queuesAgree) : t.queuesAgree :=
  State.idle_keeps take_queuesAgree reach_queuesAgree tick_queuesAgree ht h

end

end Sys2Proof.QueueProofs
end

section
namespace Sys2Proof.QueueProofs

open Sys2Proof Sys2Proof.Machine Sys2Proof.LaneProofs Sys2Proof.JobProofs

/-! ### Requests keep the queues in agreement -/

section

variable {s : State} (h : s.queuesAgree) (p : PortNo) (payload : List Byte)

include h

theorem writeFloor_queuesAgree : Leaves State.queuesAgree (writeFloor s payload) := by
  unfold writeFloor
  dsimp only
  split
  · exact h
  · split
    · exact arbitrate_queuesAgree (s := { s with floor := byteAt payload 0 }) h
    · exact h

theorem writeProfile_queuesAgree : Leaves State.queuesAgree (writeProfile s payload) := by
  unfold writeProfile
  split
  · exact h
  · split <;> exact h

theorem writeService_queuesAgree : Leaves State.queuesAgree (writeService s payload) := by
  unfold writeService
  split
  · split
    · exact h
    · split
      · exact arbitrate_queuesAgree (s := s.setService _ _) h
      · exact h
  · exact h

theorem release_queuesAgree : Leaves State.queuesAgree (release s) := by
  unfold release
  split
  · exact h
  · split
    · exact h
    · exact arbitrate_queuesAgree (s := { s with hold := .running }) h

theorem takeCompletion_queuesAgree : Leaves State.queuesAgree (Machine.takeCompletion s p) := by
  unfold Machine.takeCompletion
  split
  · exact h
  · exact dropHead_queuesAgree h ‹_›

theorem clearReflost_queuesAgree : Leaves State.queuesAgree (clearReflost s) := by
  unfold clearReflost
  split
  · exact h
  · split
    · exact arbitrate_queuesAgree (setRef_queuesAgree h _)
    · exact h

theorem checkChannels_queuesAgree : Leaves State.queuesAgree (checkChannels s payload) := by
  unfold checkChannels
  dsimp only
  split_ifs <;> exact h

theorem stopCheck_queuesAgree : Leaves State.queuesAgree (stopCheck s) := by
  unfold stopCheck
  split
  · exact arbitrate_queuesAgree (endCheck_queuesAgree h .stopped)
  · exact h

theorem writeLane_queuesAgree : Leaves State.queuesAgree (Machine.writeLane s payload) := by
  unfold Machine.writeLane
  split
  · split
    · exact h
    · split
      · exact h
      · exact rewriteLane_queuesAgree h _ _
  · exact h

theorem fillLanes_queuesAgree : Leaves State.queuesAgree (fillLanes s payload) := by
  unfold fillLanes
  dsimp only
  split
  · split_ifs <;> exact h
  · exact h

theorem stopFill_queuesAgree : Leaves State.queuesAgree (stopFill s) := by
  unfold stopFill
  split
  · exact endFill_queuesAgree h .stopped
  · exact h

theorem submit_queuesAgree : Leaves State.queuesAgree (Machine.submit s p payload) := by
  unfold Machine.submit
  split
  · exact h
  · exact arbitrate_queuesAgree (accept_queuesAgree h p _ _)

theorem cancel_queuesAgree : Leaves State.queuesAgree (Machine.cancel s p payload) := by
  unfold Machine.cancel
  split
  · exact h
  · split
    · exact h
    · split
      · exact h
      · exact cancelJob_queuesAgree h _ _

theorem writeLimit_queuesAgree : Leaves State.queuesAgree (Machine.writeLimit s payload) := by
  unfold Machine.writeLimit
  split
  · split
    · exact h
    · split <;> exact h
  · exact h

theorem freeze_queuesAgree : Leaves State.queuesAgree (freeze s payload) := by
  unfold freeze
  split
  · exact h
  · split <;> exact h

theorem thaw_queuesAgree : Leaves State.queuesAgree (thaw s payload) := by
  unfold thaw
  split
  · exact h
  · split
    · exact h
    · exact h
    · split <;> exact h

theorem resetPort_queuesAgree : Leaves State.queuesAgree (resetPort s payload) := by
  unfold resetPort
  split
  · exact h
  · exact portReset_queuesAgree h _

theorem writeWindow_queuesAgree : Leaves State.queuesAgree (Machine.writeWindow s payload) := by
  unfold Machine.writeWindow
  split
  · dsimp only
    split <;> exact h
  · exact h

end

/-! ### Resets, every command and every step -/

/-- Empty queues with ATTN at its level agree (R158). -/
theorem queuesAgree_of_initial {s : State} (initial : ∀ p : PortNo, s.queues[p] = .initial (attnLevel p [] s.ref.reflost)) :
    s.queuesAgree := by
  intro p
  rw [State.queueAgrees, initial p]
  exact ⟨Nat.zero_le _, fun some => absurd rfl some, Nat.zero_le _, rfl⟩

section

variable {s t : State}

/-- A request keeps the agreement where its own rule does: framing is no part of it. -/
theorem request_queuesAgree {p : PortNo} {code : Byte} {bytes : List Byte} {run : List Byte → Reply}
    (ht : request p code bytes s run = .next t) (h : s.queuesAgree) (rule : ∀ payload, Leaves State.queuesAgree (run payload)) :
    t.queuesAgree := by
  obtain rfl | rfl | ⟨_, _, rfl⟩ | ⟨payload, -, -, _, _, u, answers, rfl⟩ := request_next ht
  · exact h
  · exact h
  · exact h
  · have left := rule payload
    rw [answers] at left
    exact left

theorem fillVisit_queuesAgree (ht : execFillVisit s = .next t) (h : s.queuesAgree) : t.queuesAgree := by
  unfold execFillVisit at ht
  split at ht
  · split at ht
    · split at ht <;> cases ht
      · exact endFill_queuesAgree (visitLane_queuesAgree h _) .done
      · exact visitLane_queuesAgree h _
    · cases ht
      exact h
  · cases ht
    exact h

theorem reductionComplete_queuesAgree (ht : execReductionComplete s = .next t) (h : s.queuesAgree) : t.queuesAgree := by
  unfold execReductionComplete at ht
  split at ht
  · cases ht
    exact h
  · split at ht <;> cases ht
    exact completeReduction_queuesAgree h _ _

/-- Every command keeps the queues in agreement. -/
theorem exec_queuesAgree (i : Instr) (ht : exec i s = .next t) (h : s.queuesAgree) : t.queuesAgree := by
  cases i with
  | selectAsserted p =>
    change execSelectAsserted p s = _ at ht
    unfold execSelectAsserted at ht
    split at ht
    · cases ht; exact h
    · split at ht <;> cases ht <;> exact h
  | selectReleased p => cases ht; exact h
  | lastResponseByteClockedOut p =>
    change execLastResponseByteClockedOut p s = _ at ht
    unfold execLastResponseByteClockedOut at ht
    split at ht <;> cases ht <;> exact h
  | unknownRequest p code bytes => exact request_queuesAgree (show execUnknownRequest p code bytes s = .next t from ht) h fun _ => h
  | submit p bytes => exact request_queuesAgree ht h (submit_queuesAgree h p)
  | cancel p bytes => exact request_queuesAgree ht h (cancel_queuesAgree h p)
  | readJob p bytes => exact request_queuesAgree ht h (leaves_readJob h p)
  | takeCompletion p bytes => exact request_queuesAgree ht h fun _ => takeCompletion_queuesAgree h p
  | readStatus p bytes => exact request_queuesAgree (show execReadStatus p bytes s = .next t from ht) h fun _ => h
  | readSamples p bytes => exact request_queuesAgree ht h (leaves_readSamples h p)
  | readLane p bytes => exact request_queuesAgree ht h (leaves_readLane h)
  | readLimits p bytes => exact request_queuesAgree ht h (leaves_readLimits h)
  | readChannel p bytes => exact request_queuesAgree ht h (leaves_readChannel h)
  | readReference p bytes => exact request_queuesAgree (show execReadReference p bytes s = .next t from ht) h fun _ => h
  | resetOwnPort p bytes =>
    exact request_queuesAgree (show execResetOwnPort p bytes s = .next t from ht) h fun _ => portReset_queuesAgree h p
  | resetPort p bytes => exact request_queuesAgree ht h (resetPort_queuesAgree h)
  | writeLane p bytes => exact request_queuesAgree ht h (writeLane_queuesAgree h)
  | fillLanes p bytes => exact request_queuesAgree ht h (fillLanes_queuesAgree h)
  | fillVisit => exact fillVisit_queuesAgree ht h
  | stopFill p bytes => exact request_queuesAgree ht h fun _ => stopFill_queuesAgree h
  | writeWindow p bytes => exact request_queuesAgree ht h (writeWindow_queuesAgree h)
  | writeProfile p bytes => exact request_queuesAgree ht h (writeProfile_queuesAgree h)
  | writeFloor p bytes => exact request_queuesAgree ht h (writeFloor_queuesAgree h)
  | writeLimit p bytes => exact request_queuesAgree ht h (writeLimit_queuesAgree h)
  | freeze p bytes => exact request_queuesAgree ht h (freeze_queuesAgree h)
  | thaw p bytes => exact request_queuesAgree ht h (thaw_queuesAgree h)
  | hold p bytes => exact request_queuesAgree (show execHold p bytes s = .next t from ht) h fun _ => h
  | release p bytes => exact request_queuesAgree ht h fun _ => release_queuesAgree h
  | checkChannels p bytes => exact request_queuesAgree ht h (checkChannels_queuesAgree h)
  | stopCheck p bytes => exact request_queuesAgree ht h fun _ => stopCheck_queuesAgree h
  | writeService p bytes => exact request_queuesAgree ht h (writeService_queuesAgree h)
  | clearReflost p bytes => exact request_queuesAgree ht h fun _ => clearReflost_queuesAgree h
  | clearRefEvents p bytes => exact request_queuesAgree (show execClearRefEvents p bytes s = .next t from ht) h fun _ => h
  | refinRisingEdge => exact afterPassTo_queuesAgree ht h fun u hu hf => by cases hf; exact refinRises_queuesAgree hu
  | referenceLocked => cases ht; exact referenceLocks_queuesAgree h
  | absenceExpiry => exact timedCommand_queuesAgree (show execAbsenceExpiry s = .next t from ht) h fun _ => absenceComes_queuesAgree
  | lineTimeAdvance => cases ht; exact lineTimeAdvances_queuesAgree h
  | lineTimeRcAdvance =>
    exact timedCommand_queuesAgree (show execLineTimeRcAdvance s = .next t from ht) h fun _ => lineTimeRcAdvances_queuesAgree
  | laneInputTransition k fine =>
    change execLaneInputTransition k fine s = _ at ht
    rw [execLaneInputTransition, ← ite_not] at ht
    exact timedCommand_queuesAgree ht h fun _ hu => inputChanges_queuesAgree hu k
  | qualifiedEdge c fine => exact afterPassTo_queuesAgree ht h fun _ hu hf => edgeComes_queuesAgree hu hf
  | starvationExpiry c =>
    change execStarvationExpiry c s = _ at ht
    unfold execStarvationExpiry at ht
    split at ht
    · exact timedCommand_queuesAgree ht h fun _ hu => timerExpires_queuesAgree hu c
    · cases ht; exact h
  | reductionComplete => exact reductionComplete_queuesAgree ht h
  | calEdge e0 e1 e2 e3 =>
    exact timedCommand_queuesAgree (show execCalEdge e0 e1 e2 e3 s = .next t from ht) h fun _ hu => calEdgeComes_queuesAgree hu e0 e1 e2 e3
  | deviceReset => cases ht; exact queuesAgree_of_initial fun p => getElem_ofFn_fin _ p
  | deviceResetRelease => cases ht; exact h
  | powerOnReset =>
    cases ht
    refine queuesAgree_of_initial fun p => (getElem_ofFn_fin _ p).trans ?_
    rw [attnLevel_eq]
    exact congrArg PortQueue.initial (Bool.and_true _).symm
  | powerOnSettleExpiry => cases ht; exact h

end

/-- Settles O9: what enters a queue or waits behind it keeps its bounds and its ATTN, and steps change the queues in no other way. -/
theorem stepKeepsQueues : Obligations.StepKeepsQueues := by
  intro s t h ht
  unfold step at ht
  split at ht
  · exact exec_queuesAgree _ ht h
  · exact idle_queuesAgree ht h

end Sys2Proof.QueueProofs
end

section
namespace Sys2Proof.CheckProofs

open Sys2Proof Sys2Proof.Machine Sys2Proof.LaneProofs Sys2Proof.JobProofs Sys2Proof.ArbiterProofs Sys2Proof.SampleProofs

/-! ### CHECK CHANNELS (R160 to R162) -/

/-- The payload of a CHECK CHANNELS: MASK, E, TOLERANCE and THRESHOLD (R175). -/
abbrev checkPayload (mask : Byte) (e tolerance threshold : BitVec 16) : List Byte :=
  [mask] ++ leBytes 2 e.toNat ++ leBytes 2 tolerance.toNat ++ leBytes 2 threshold.toNat

/-- A parameter of a CHECK CHANNELS is out of its range (R160). -/
abbrev BadCheck (mask : Byte) (e tolerance : BitVec 16) : Prop :=
  mask = 0 ∨ 15 < mask.toNat ∨ e.toNat < 1024 ∨ tolerance.toNat < 16 ∨ 4096 < tolerance.toNat

section

variable {s : State} {mask : Byte} {e tolerance threshold : BitVec 16}

theorem checkPayload_mask : byteAt (checkPayload mask e tolerance threshold) 0 = mask.toNat := byteAt_cons_zero mask _

theorem checkPayload_e : field (checkPayload mask e tolerance threshold) 1 2 = e.toNat := leValue_leBytes_two e.isLt

theorem checkPayload_tolerance : field (checkPayload mask e tolerance threshold) 3 2 = tolerance.toNat :=
  leValue_leBytes_two tolerance.isLt

theorem checkPayload_threshold : field (checkPayload mask e tolerance threshold) 5 2 = threshold.toNat :=
  leValue_leBytes_two threshold.isLt

theorem checkParametersOk_iff : checkParametersOk mask.toNat e.toNat tolerance.toNat = true ↔ ¬ BadCheck mask e tolerance := by
  have zero : mask = 0 ↔ mask.toNat = 0 := BitVec.toNat_inj.symm
  simp only [checkParametersOk, BadCheck, Bool.and_eq_true, decide_eq_true_eq, zero]
  omega

/-- CHECK CHANNELS with its parameters read from the payload. -/
theorem checkChannels_eq : checkChannels s (checkPayload mask e tolerance threshold) =
    if BadCheck mask e tolerance then refuse .badValue s
    else if s.hold ≠ .active then refuse .notHeld s
    else if s.verif.running then refuse .checkRunning s
    else if s.ref.state ≠ .locked then refuse .refNotLocked s
    else succeed (s.startCheck (BitVec.ofNat 4 mask.toNat) e.toNat tolerance.toNat threshold.toNat) := by
  rw [checkChannels, checkPayload_mask, checkPayload_e, checkPayload_tolerance, checkPayload_threshold]
  refine if_congr ?_ rfl rfl
  rw [Bool.not_eq_true', ← Bool.not_eq_true, checkParametersOk_iff, not_not]

theorem checkChannels_takes {t : State} {status : Status}
    (answers : checkChannels s (checkPayload mask e tolerance threshold) = .answer status [] t) :
    s.takes .checkChannels 0x2B 0 (checkPayload mask e tolerance threshold) t status [] :=
  takes_of_run rfl (by simp [leBytes]) rfl answers

/-- The four bits of the mask are the low bits of its byte. -/
theorem getLsbD_mask (mask : Byte) (c : ChannelNo) : (BitVec.ofNat 4 mask.toNat).getLsbD c.val = mask.getLsbD c.val := by
  rw [BitVec.getLsbD_ofNat, decide_eq_true c.isLt, Bool.true_and, BitVec.testBit_toNat]

/-- What the start of a check writes (R161, R162). -/
theorem startCheck_eq : s.startCheck (BitVec.ofNat 4 mask.toNat) e.toNat tolerance.toNat threshold.toNat = { s with
    verif := ⟨true, BitVec.ofNat 4 mask.toNat, e.toNat, tolerance.toNat, threshold.toNat, 0x7FFF, 0, 0,
      Vector.ofFn fun c : ChannelNo => if mask.getLsbD c.val then 0 else s.verif.errors[c],
      (s.ref.counter ++ s.ref.fine) + 4194304, 4194304⟩
    chans := Vector.ofFn fun c : ChannelNo =>
      if mask.getLsbD c.val then { s.chans[c] with activity := .checking } else s.chans[c]
    xpoint := Vector.ofFn fun c : ChannelNo => if mask.getLsbD c.val then .cal else s.xpoint[c] } := by
  simp only [State.startCheck, Verifier.started, getLsbD_mask]
  rfl

end

/-! ### STOP CHECK (R166, R167) -/

/-- The end of a check offers its record to P0 (R166). -/
theorem endCheck_eq_reported (s : State) (o : EndOutcome) : s.endCheck o = s.dropCheck.reported (s.dropCheck.checkReport o) :=
  offerService_eq_reported _ _

theorem stopCheck_takes {s t : State} (answers : stopCheck s = succeed t) : s.takes .stopCheck 0x2C 0 [] t .success [] :=
  takes_of_run (run := fun _ => stopCheck s) rfl (by simp) rfl answers

/-- In HOLD_ACTIVE the end of the check leaves the decision that follows nothing to grant (R63, R167). -/
theorem stopCheck_of_running {s : State} (running : s.verif.running = true) (active : s.hold = .active) :
    stopCheck s = succeed (s.endCheck .stopped) := by
  have closed : (s.endCheck .stopped).hold ≠ .running := by
    rw [State.endCheck_hold, active]
    decide
  rw [stopCheck, if_pos running, State.arbitrate, arbitrateUpTo_of_none (.inr (nextJob_of_closed (.inr (.inr closed))))]

/-- Settles O57: the refusals in their order and what a start writes; the end of a check, after which the hold keeps the arbiter from
granting. -/
theorem checkStartAndStop : Obligations.CheckStartAndStop := by
  refine ⟨fun s mask e tolerance threshold => ?_, fun s => ⟨fun idle => ?_, fun running active => ?_⟩⟩
  · refine ⟨fun bad => ?_, fun good free => ?_, fun good active running => ?_, fun good active idle unlocked => ?_,
      fun good active idle locked => ?_⟩ <;> refine checkChannels_takes (checkChannels_eq.trans ?_)
    · rw [if_pos bad]
      rfl
    · rw [if_neg good, if_pos free]
      rfl
    · rw [if_neg good, if_neg (not_not.mpr active), if_pos running]
      rfl
    · rw [if_neg good, if_neg (not_not.mpr active), if_neg (by simp [idle]), if_pos unlocked]
      rfl
    · rw [if_neg good, if_neg (not_not.mpr active), if_neg (by simp [idle]), if_neg (not_not.mpr locked), startCheck_eq]
      rfl
  · exact stopCheck_takes (if_neg (by simp [idle]))
  · exact stopCheck_takes ((stopCheck_of_running running active).trans (congrArg succeed (endCheck_eq_reported s .stopped)))

end Sys2Proof.CheckProofs
end

section
namespace Sys2Proof.PrbsProofs

open Sys2Proof Sys2Proof.Machine Function

/-! ### A PRBS step, bit by bit (R162) -/

theorem getLsbD_prbsStep (r : BitVec 15) (i : Nat) :
    (prbsStep r).getLsbD i = if i = 0 then prbsBit r else decide (i < 15) && r.getLsbD (i - 1) := by
  cases i with
  | zero => cases h : prbsBit r <;> simp [prbsStep, h]
  | succ i => cases h : prbsBit r <;> simp [prbsStep, h, BitVec.getLsbD_one]

theorem getLsbD_prbsStep_zero (r : BitVec 15) : (prbsStep r).getLsbD 0 = prbsBit r := by
  simp only [getLsbD_prbsStep, if_pos]

theorem getLsbD_prbsStep_succ (r : BitVec 15) {i : Nat} (below : i + 1 < 15) : (prbsStep r).getLsbD (i + 1) = r.getLsbD i := by
  rw [getLsbD_prbsStep, if_neg i.succ_ne_zero, decide_eq_true below, Bool.true_and, Nat.add_sub_cancel]

theorem getLsbD_iterate_prbsStep (r : BitVec 15) {n i : Nat} (below : i + n < 15) : (prbsStep^[n] r).getLsbD (i + n) = r.getLsbD i := by
  induction n with
  | zero => rfl
  | succ n ih => rw [iterate_succ_apply', ← Nat.add_assoc, getLsbD_prbsStep_succ _ (by omega), ih (by omega)]

theorem prbsBit_xor (a b : BitVec 15) : prbsBit (a ^^^ b) = (prbsBit a ^^ prbsBit b) := by
  simp only [prbsBit, BitVec.getLsbD_xor, Bool.xor_assoc, Bool.xor_left_comm]

/-- A step is linear over the field of two elements. -/
theorem prbsStep_xor (a b : BitVec 15) : prbsStep (a ^^^ b) = prbsStep a ^^^ prbsStep b := by
  refine BitVec.eq_of_getLsbD_eq fun i _ => ?_
  simp only [BitVec.getLsbD_xor, getLsbD_prbsStep, prbsBit_xor]
  split
  · rfl
  · exact Bool.and_xor_distrib_left ..

theorem iterate_prbsStep_xor (n : Nat) (a b : BitVec 15) : prbsStep^[n] (a ^^^ b) = prbsStep^[n] a ^^^ prbsStep^[n] b := by
  induction n with
  | zero => rfl
  | succ n ih => rw [iterate_succ_apply', ih, prbsStep_xor, iterate_succ_apply', iterate_succ_apply']

/-! ### The recurrence of the sequence, and its squares -/

/-- Bit `i` after fifteen steps is the one that the step number `15 - i` made; the bits 14 and 13 it was made of are bit `i` of `r` and of
the step after `r`. -/
theorem prbsStep_iterate_fifteen (r : BitVec 15) : prbsStep^[15] r = prbsStep r ^^^ r := by
  refine BitVec.eq_of_getLsbD_eq fun i hi => ?_
  obtain ⟨n, split⟩ : ∃ n, i + n = 14 := ⟨14 - i, by omega⟩
  have oldest (x : BitVec 15) : (prbsStep^[n] x).getLsbD 14 = x.getLsbD i := by
    rw [← split, getLsbD_iterate_prbsStep x (by omega)]
  have second : (prbsStep^[n] r).getLsbD 13 = (prbsStep r).getLsbD i := by
    rw [← getLsbD_prbsStep_succ _ (by decide), ← iterate_succ_apply' prbsStep, iterate_succ_apply, oldest]
  calc (prbsStep^[15] r).getLsbD i
    _ = (prbsStep^[i] (prbsStep^[n + 1] r)).getLsbD (0 + i) := by rw [← iterate_add_apply, ← Nat.add_assoc, split, Nat.zero_add]
    _ = prbsBit (prbsStep^[n] r) := by rw [getLsbD_iterate_prbsStep _ (by omega), iterate_succ_apply', getLsbD_prbsStep_zero]
    _ = (prbsStep r ^^^ r).getLsbD i := by rw [prbsBit, oldest, second, BitVec.getLsbD_xor, Bool.xor_comm]

/-- Squaring keeps the recurrence, since a state cancels against itself. -/
theorem iterate_prbsStep_fifteen_mul (k : Nat) (r : BitVec 15) : prbsStep^[15 * 2 ^ k] r = prbsStep^[2 ^ k] r ^^^ r := by
  induction k generalizing r with
  | zero => exact prbsStep_iterate_fifteen r
  | succ k ih =>
    have twice (n : Nat) (x : BitVec 15) : prbsStep^[n * 2] x = prbsStep^[n] (prbsStep^[n] x) := by rw [Nat.mul_two, iterate_add_apply]
    rw [pow_succ, ← Nat.mul_assoc, twice, ih, ih, iterate_prbsStep_xor, twice, BitVec.xor_assoc,
      ← BitVec.xor_assoc (prbsStep^[2 ^ k] r), BitVec.xor_self, BitVec.zero_xor]

theorem prbsStep_injective : Injective prbsStep := by
  intro a b same
  have fifteen : prbsStep^[15] a = prbsStep^[15] b := congrArg prbsStep^[14] same
  rwa [prbsStep_iterate_fifteen, prbsStep_iterate_fifteen, same, BitVec.xor_right_inj] at fifteen

/-- The result of 2^`k` steps, computed in few: up to eight one by one, beyond that by the squared recurrence, as x¹⁶ = x² + x gives
x^(2^(k+4)) = x^(2^(k+1)) + x^(2^k). -/
def prbsPow2 : Nat → BitVec 15 → BitVec 15
  | k + 4, r => prbsPow2 (k + 1) r ^^^ prbsPow2 k r
  | k, r => prbsStep^[2 ^ k] r

theorem prbsPow2_eq (k : Nat) (r : BitVec 15) : prbsPow2 k r = prbsStep^[2 ^ k] r := by
  induction k using Nat.strong_induction_on with
  | _ k ih =>
    match k with
    | k + 4 =>
      have split : 2 ^ (k + 4) = 15 * 2 ^ k + 2 ^ k := by rw [pow_add]; omega
      rw [prbsPow2, ih _ (by omega), ih _ (by omega), split, iterate_add_apply, iterate_prbsStep_fifteen_mul, ← iterate_add_apply,
        ← Nat.two_mul, pow_succ']
    | 0 | 1 | 2 | 3 => rfl

theorem iterate_prbsStep_sum (ks : List Nat) (r : BitVec 15) : prbsStep^[(ks.map (2 ^ ·)).sum] r = ks.foldr prbsPow2 r := by
  induction ks with
  | nil => rfl
  | cons k ks ih => rw [List.map_cons, List.sum_cons, iterate_add_apply, ih, List.foldr_cons, prbsPow2_eq]

/-! ### The period -/

/-- A period is minimal if no quotient of it by a prime is one, as every proper divisor divides such a quotient. -/
theorem minimalPeriod_eq_of_not_isPeriodicPt_div_prime {α : Type} {f : α → α} {x : α} {n : Nat} (period : IsPeriodicPt f n x)
    (proper : ∀ p : Nat, p.Prime → p ∣ n → ¬ IsPeriodicPt f (n / p) x) : minimalPeriod f x = n := by
  obtain ⟨a, factor⟩ := period.minimalPeriod_dvd
  by_cases one : a = 1
  · rw [factor, one, Nat.mul_one]
  · obtain ⟨p, prime, b, rfl⟩ := Nat.exists_prime_and_dvd one
    have shorter : n / p = minimalPeriod f x * b := by
      rw [factor, Nat.mul_left_comm, Nat.mul_div_cancel_left _ prime.pos]
    refine absurd ?_ (proper p prime ⟨minimalPeriod f x * b, by rw [Nat.mul_left_comm, ← factor]⟩)
    exact isPeriodicPt_iff_minimalPeriod_dvd.mpr ⟨b, shorter⟩

theorem prime_dvd_32767_cases {p : Nat} (prime : p.Prime) (dvd : p ∣ 32767) : p = 7 ∨ p = 31 ∨ p = 151 := by
  have factors : p ∣ 7 * 31 * 151 := dvd
  rw [prime.dvd_mul, prime.dvd_mul, Nat.prime_dvd_prime_iff_eq prime (by norm_num), Nat.prime_dvd_prime_iff_eq prime (by norm_num),
    Nat.prime_dvd_prime_iff_eq prime (by norm_num), or_assoc] at factors
  exact factors

theorem prbsStep_minimalPeriod : minimalPeriod prbsStep (0x7FFF : BitVec 15) = 32767 := by
  refine minimalPeriod_eq_of_not_isPeriodicPt_div_prime ?_ fun p prime dvd => ?_
  · have again : prbsStep (prbsStep^[32767] 0x7FFF) = prbsStep 0x7FFF :=
      (iterate_succ_apply' ..).symm.trans ((prbsPow2_eq 15 _).symm.trans (by decide))
    exact prbsStep_injective again
  · obtain rfl | rfl | rfl := prime_dvd_32767_cases prime dvd
    · have at585 : prbsStep^[585] (0x7FFF : BitVec 15) = 0x451 := (iterate_prbsStep_sum [0, 3, 6, 9] _).trans (by decide)
      have at4681 : prbsStep^[2 ^ 12 + 585] (0x7FFF : BitVec 15) ≠ 0x7FFF := by
        rw [iterate_add_apply, at585, ← prbsPow2_eq]
        decide
      exact at4681
    · exact (iterate_prbsStep_sum [0, 5, 10] _).trans_ne (by decide)
    · exact (iterate_prbsStep_sum [0, 3, 4, 6, 7] _).trans_ne (by decide)

/-- Settles O59: the first bits by evaluation; the period by the squares of the recurrence, and its minimality by the three primes that
divide 32,767. -/
theorem prbsPeriod : Obligations.PrbsPeriod := by
  have period := prbsStep_minimalPeriod
  refine ⟨by decide, by decide, ?_, fun i pos below => ?_⟩
  · exact period ▸ isPeriodicPt_minimalPeriod prbsStep _
  · exact not_isPeriodicPt_of_pos_of_lt_minimalPeriod pos.ne' (period.symm ▸ below)

end Sys2Proof.PrbsProofs
end

section
namespace Sys2Proof.PortProofs

open Sys2Proof Sys2Proof.Machine

/-! ### What every request shares (R172, R173) -/

/-- The command `name` brings the bytes of a request of this code: framing and tests are those of `request`, whatever its own rule. -/
def IsRequest (code : Byte) (name : PortNo → List Byte → Instr) : Prop :=
  ∀ (s : State) (p : PortNo), ∃ run : List Byte → Reply, ∀ bytes, exec (name p bytes) s = request p code bytes s run

theorem isRequest_fixed : ∀ r ∈ fixedRequests, IsRequest r.1 r.2.2 := by
  have readStatus : IsRequest 0x05 .readStatus := fun s p => ⟨fun _ => .answer .success (statusResponse s p) s, fun _ => rfl⟩
  have readReference : IsRequest 0x0A .readReference := fun s _ => ⟨fun _ => .answer .success (referenceResponse s.ref) s, fun _ => rfl⟩
  have resetOwnPort : IsRequest 0x0B .resetOwnPort := fun s p => ⟨fun _ => succeed (s.portReset p), fun _ => rfl⟩
  have hold : IsRequest 0x29 .hold := fun s _ => ⟨fun _ => succeed { s with hold := s.heldBy }, fun _ => rfl⟩
  have clearRefEvents : IsRequest 0x2F .clearRefEvents := fun s _ =>
    ⟨fun _ => succeed { s with ref := { s.ref with first := none, latest := none } }, fun _ => rfl⟩
  simp only [fixedRequests, List.forall_mem_cons, readStatus, readReference, resetOwnPort, hold, clearRefEvents, true_and,
    List.not_mem_nil, false_imp_iff, implies_true, and_true]
  and_intros
  all_goals exact fun _ _ => ⟨_, fun _ => rfl⟩

theorem isRequest_submit : IsRequest 0x01 .submit := fun _ _ => ⟨_, fun _ => rfl⟩

theorem isRequest_unknown (code : UnknownCode) : IsRequest code.code fun p bytes => .unknownRequest p code bytes :=
  fun s _ => ⟨fun _ => refuse .unknownRequest s, fun _ => rfl⟩

/-- What follows from the framing alone holds of every request. -/
theorem ofEveryRequest_of_isRequest {P : Byte → (PortNo → List Byte → Instr) → Prop}
    (h : ∀ {code name}, IsRequest code name → P code name) : ofEveryRequest P :=
  ⟨fun r hr => h (isRequest_fixed r hr), h isRequest_submit, fun code => h (isRequest_unknown code)⟩

/-! ### The framing events (R172, R174, R183, R184) -/

theorem takesFrames_eq_false {s : State} (deaf : s.resetPin = true ∨ s.settled = false) : s.takesFrames = false := by
  rw [State.takesFrames]
  rcases deaf with pin | unsettled
  · rw [pin, Bool.not_true, Bool.false_and]
  · rw [unsettled, Bool.and_false]

theorem execSelectAsserted_of_released {s : State} {p : PortNo} (released : s.ports[p].selected = false) :
    execSelectAsserted p s = if s.takesFrames then .next (s.setPort p ⟨.receiving, [], [], true⟩)
      else .next (s.setPort p { s.ports[p] with selected := true }) := by
  rw [execSelectAsserted, released]
  rfl

/-- Settles O14, by the branches of the three events. -/
theorem portFraming : Obligations.PortFraming := by
  intro s p
  refine ⟨fun asserted => if_pos asserted, fun released pin settled => ?_, fun released deaf => ?_, rfl,
    fun answering => if_pos answering, fun other => if_neg other⟩
  · have takes : s.takesFrames = true := by rw [State.takesFrames, pin, settled]; rfl
    exact (execSelectAsserted_of_released released).trans (if_pos takes)
  · refine (execSelectAsserted_of_released released).trans (if_neg ?_)
    rw [takesFrames_eq_false deaf]
    exact Bool.false_ne_true

end Sys2Proof.PortProofs
end

section
namespace Sys2Proof.PortProofs

open Sys2Proof Sys2Proof.Machine

/-! ### How far bytes bring a frame (R172, R173) -/

theorem frameState_unfinished {bytes : List Byte}
    (short : bytes = [] ∨ ∃ n rest, bytes = n :: rest ∧ n.toNat ≤ 60 ∧ rest.length < n.toNat) :
    frameState bytes = .unfinished := by
  obtain rfl | ⟨n, rest, rfl, fits, missing⟩ := short
  · rfl
  · rw [frameState, if_neg (Nat.not_lt.mpr fits), if_pos missing]

theorem frameState_overlong {n : Byte} (rest : List Byte) (long : 60 < n.toNat) : frameState (n :: rest) = .overlong := by
  rw [frameState, if_pos long]

/-- Bytes after the last of a frame are not the request's. -/
theorem frameState_framed_append {payload : List Byte} (short : payload.length ≤ 60) (more : List Byte) :
    frameState (framed payload ++ more) = .whole payload := by
  have count : (BitVec.ofNat 8 payload.length).toNat = payload.length := Nat.mod_eq_of_lt (by omega)
  rw [framed, List.cons_append, frameState, count, if_neg (Nat.not_lt.mpr short), if_neg (by simp), List.take_left]

theorem length_framed (payload : List Byte) : (framed payload).length = payload.length + 1 := rfl

theorem frameState_framed {payload : List Byte} (short : payload.length ≤ 60) : frameState (framed payload) = .whole payload :=
  frameState_whole payload short

/-! ### What becomes of a frame (R172, R173) -/

section

variable {s : State} {p : PortNo} {code : Byte} {name : PortNo → List Byte → Instr} (isRequest : IsRequest code name)

include isRequest

theorem exec_ignored {bytes : List Byte} (h : s.ports[p].framing ≠ .receiving ∨ ¬ s.ports[p].received <+: code :: bytes) :
    exec (name p bytes) s = .next s := by
  obtain ⟨run, meaning⟩ := isRequest s p
  rw [meaning, request_ignored h]

theorem exec_kept {bytes : List Byte} (hears : s.hears p (code :: bytes)) (unfinished : frameState bytes = .unfinished) :
    exec (name p bytes) s = .next (s.receive p (code :: bytes)) := by
  obtain ⟨run, meaning⟩ := isRequest s p
  rw [meaning, request_kept hears.1 hears.2 unfinished]

theorem exec_overlong {bytes : List Byte} (hears : s.hears p (code :: bytes)) (overlong : frameState bytes = .overlong) :
    exec (name p bytes) s = .next (s.answer p (code :: bytes.take 1) .malformed []) := by
  obtain ⟨run, meaning⟩ := isRequest s p
  rw [meaning, request, if_pos hears, overlong]

/-- A request reads its own frame and no byte after it. -/
theorem exec_framed_append {payload : List Byte} (short : payload.length ≤ 60) (hears : s.hears p (code :: framed payload))
    (more : List Byte) : exec (name p (framed payload ++ more)) s = exec (name p (framed payload)) s := by
  obtain ⟨run, meaning⟩ := isRequest s p
  have longer : s.hears p (code :: (framed payload ++ more)) := ⟨hears.1, hears.2.trans ⟨more, rfl⟩⟩
  rw [meaning, meaning, request, request, if_pos hears, if_pos longer, frameState_framed_append short, frameState_framed short]
  dsimp only
  rw [← length_framed, List.take_left, List.take_length]

/-- A whole frame that fails a test of R173 is answered so, and nothing else changes. -/
theorem refuses_of_frameRefusal {payload : List Byte} {status : Status} (short : payload.length ≤ 60)
    (fails : frameRefusal p code payload = some status) : s.refuses name code p payload status := by
  intro hears
  obtain ⟨run, meaning⟩ := isRequest s p
  rw [meaning, request, if_pos hears, frameState_framed short]
  dsimp only
  rw [fails]
  dsimp only
  rw [← length_framed, List.take_length]
  rfl

end

/-- Settles O15, by what becomes of a frame that is not whole, and by the bytes a whole one reads. -/
theorem frameReception : Obligations.FrameReception := by
  refine fun s p bytes => ⟨fun deaf => ofEveryRequest_of_isRequest fun isRequest => exec_ignored isRequest (.inl deaf),
    ofEveryRequest_of_isRequest fun isRequest => ⟨fun strange => ?_, fun hears short => ?_, fun payload short hears => ?_⟩⟩
  · exact exec_ignored isRequest (.inr strange)
  · exact exec_kept isRequest hears (frameState_unfinished short)
  · exact exec_framed_append isRequest short hears bytes

end Sys2Proof.PortProofs
end

section
namespace Sys2Proof.PortProofs

open Sys2Proof Sys2Proof.Machine Sys2Proof.JobProofs

/-! ### The tests of a whole frame (R173) -/

theorem requiredLength_of_unknown {code : Byte} (unknown : code ∉ requestCodes) (payload : List Byte) :
    requiredLength code payload = none := by
  have number {k : Nat} (h : code.toNat = k) : BitVec.ofNat 8 k ∉ requestCodes := by
    rw [← h, BitVec.ofNat_toNat, BitVec.setWidth_eq]
    exact unknown
  unfold requiredLength
  split
  case h_29 => rfl
  all_goals
    rename_i known
    exact absurd (by decide) (number known)

theorem requiredLength_fixed (payload : List Byte) : ∀ r ∈ fixedRequests, requiredLength r.1 payload = some r.2.1 := by
  simp only [fixedRequests, List.forall_mem_cons, List.not_mem_nil, false_imp_iff, implies_true, and_true]
  and_intros
  all_goals rfl

section

variable {p : PortNo} {code : Byte} {payload : List Byte} {k : Nat}

theorem frameRefusal_unknown (unknown : code ∉ requestCodes) : frameRefusal p code payload = some .unknownRequest := by
  rw [frameRefusal, requiredLength_of_unknown unknown]

theorem frameRefusal_notPermitted (required : requiredLength code payload = some k) (supervisor : 0x20 ≤ code.toNat) (station : p ≠ 0) :
    frameRefusal p code payload = some .notPermitted := by
  rw [frameRefusal, required, supervisorOnly, decide_eq_true supervisor, decide_eq_true station]
  rfl

theorem frameRefusal_malformed (required : requiredLength code payload = some k) (permitted : code.toNat < 0x20 ∨ p = 0)
    (other : payload.length ≠ k) : frameRefusal p code payload = some .malformed := by
  have passes : (supervisorOnly code && decide (p ≠ 0)) = false := by
    rw [supervisorOnly, Bool.and_eq_false_iff, decide_eq_false_iff_not, decide_eq_false_iff_not, not_not]
    exact permitted.imp_left Nat.not_le.mpr
  rw [frameRefusal, required]
  dsimp only
  rw [passes, if_neg Bool.false_ne_true, if_pos other]

theorem requiredLength_submit : requiredLength 0x01 payload = some (15 + 2 * (payload.getD 14 0).toNat) := by
  rw [← byteAt_eq_getD]
  rfl

end

/-- Settles O16: the length byte by its bound, the others by the first test of a whole frame that holds. -/
theorem frameTests : Obligations.FrameTests := by
  refine ⟨fun s p n rest long => ofEveryRequest_of_isRequest fun isRequest hears => ?_, fun s p payload short =>
    ⟨fun code => ?_, fun r known supervisor station => ?_, fun r known permitted other => ?_, fun other => ?_⟩⟩
  · exact exec_overlong isRequest hears (frameState_overlong rest long)
  · exact refuses_of_frameRefusal (isRequest_unknown code) short (frameRefusal_unknown code.unknown)
  · exact refuses_of_frameRefusal (isRequest_fixed r known) short
      (frameRefusal_notPermitted (requiredLength_fixed payload r known) supervisor station)
  · exact refuses_of_frameRefusal (isRequest_fixed r known) short
      (frameRefusal_malformed (requiredLength_fixed payload r known) permitted other)
  · exact refuses_of_frameRefusal isRequest_submit short
      (frameRefusal_malformed requiredLength_submit (.inl (by decide)) (by omega))

end Sys2Proof.PortProofs
end

section
namespace Sys2Proof.LayoutProofs

open Sys2Proof Sys2Proof.Machine Sys2Proof.JobProofs Sys2Proof.LimitProofs

/-! ### Fields in little-endian order (R175) -/

@[simp] theorem length_leBytes (k v : Nat) : (leBytes k v).length = k := by
  induction k generalizing v with
  | zero => rfl
  | succ k ih => rw [leBytes, List.length_cons, ih]

theorem leBytes_one (v : Nat) : leBytes 1 v = [BitVec.ofNat 8 v] := rfl

theorem leBytes_one_toNat (b : Byte) : leBytes 1 b.toNat = [b] := by
  rw [leBytes_one, BitVec.ofNat_toNat, BitVec.setWidth_eq]

theorem getD_leBytes {k i : Nat} (inside : i < k) (v : Nat) : ((leBytes k v).getD i 0).toNat = v / 256 ^ i % 256 := by
  induction k generalizing i v with
  | zero => exact absurd inside (Nat.not_lt_zero i)
  | succ k ih =>
    cases i with
    | zero => rw [pow_zero, Nat.div_one]; exact BitVec.toNat_ofNat ..
    | succ i => rw [leBytes, List.getD_cons_succ, ih (Nat.lt_of_succ_lt_succ inside), Nat.div_div_eq_div_mul, pow_succ']

/-! ### The response (R175) -/

theorem toNat_code (h : Handle) : h.code.toNat = h.slot.val + 16 * h.gen.toNat := by
  have slot : (BitVec.ofNat 4 h.slot.val).toNat = h.slot.val := Nat.mod_eq_of_lt h.slot.isLt
  rw [Handle.code, BitVec.toNat_append, slot, ← Nat.shiftLeft_add_eq_or_of_lt h.slot.isLt, Nat.shiftLeft_eq]
  omega

/-- A response has a pad byte exactly when its payload is odd, and then fills its units. -/
theorem responseBytes_units (status : Status) {body : List Byte} (short : body.length ≤ 510) :
    ∃ units pad, responseBytes status body = status.code :: units :: (body ++ pad) ∧
      2 * units.toNat = body.length + pad.length ∧ pad.length ≤ 1 ∧ ∀ b ∈ pad, b = 0 := by
  have units : (BitVec.ofNat 8 ((body.length + 1) / 2)).toNat = (body.length + 1) / 2 := Nat.mod_eq_of_lt (by omega)
  refine ⟨_, _, rfl, ?_⟩
  rw [units]
  split
  · exact ⟨by rw [List.length_singleton]; omega, Nat.le_refl 1, fun _ => List.mem_singleton.mp⟩
  · exact ⟨by rw [List.length_nil]; omega, Nat.zero_le 1, nofun⟩

/-- Settles O17, by the units of a response, the bytes of a field, the bits of a handle and the table of status codes. -/
theorem responseLayout : Obligations.ResponseLayout := by
  refine ⟨⟨fun status _ short => responseBytes_units status short, fun k v =>
    ⟨length_leBytes k v, leValue_leBytes k v, fun _ inside => ?_⟩⟩, fun h => ⟨toNat_code h, handleOf_code h⟩, fun status => ?_⟩
  · exact getD_leBytes inside v
  · cases status <;> rfl

end Sys2Proof.LayoutProofs
end

section
namespace Sys2Proof.LayoutProofs

open Sys2Proof Sys2Proof.Machine Sys2Proof.LimitProofs

/-! ### Layouts: widths and values, one after the other -/

/-- The bytes that a list of widths and values lays out. -/
def spell (fields : List (Nat × Nat)) : List Byte := fields.flatMap fun f => leBytes f.1 f.2

/-- The width and value of the field of a layout that begins at `offset`. -/
def fieldAt : List (Nat × Nat) → Nat → Option (Nat × Nat)
  | [], _ => none
  | f :: _, 0 => some f
  | f :: rest, offset + 1 => bif f.1.ble (offset + 1) then fieldAt rest (offset + 1 - f.1) else none

theorem spell_cons (k v : Nat) (fields : List (Nat × Nat)) : spell ((k, v) :: fields) = leBytes k v ++ spell fields := rfl

theorem spell_append (l r : List (Nat × Nat)) : spell (l ++ r) = spell l ++ spell r := List.flatMap_append

theorem length_spell (fields : List (Nat × Nat)) : (spell fields).length = (fields.map Prod.fst).sum := by
  simp [spell, List.length_flatMap]

theorem field_zero_leBytes (k v : Nat) (rest : List Byte) : field (leBytes k v ++ rest) 0 k = v % 256 ^ k := by
  rw [field, List.drop_zero, List.take_left' (length_leBytes k v), leValue_leBytes]

/-- A field that begins behind the first bytes of a payload is one of the rest. -/
theorem field_append_right {front : List Byte} {offset : Nat} (behind : front.length ≤ offset) (rest : List Byte) (k : Nat) :
    field (front ++ rest) offset k = field rest (offset - front.length) k := by
  rw [field, field, List.drop_append, List.drop_eq_nil_of_le behind, List.nil_append]

theorem leValue_append (l r : List Byte) : leValue (l ++ r) = leValue l + 256 ^ l.length * leValue r := by
  induction l with
  | nil => rw [List.nil_append, List.length_nil, pow_zero, Nat.one_mul, leValue, Nat.zero_add]
  | cons b l ih => rw [List.cons_append, leValue, leValue, ih, List.length_cons, pow_succ', Nat.mul_add, Nat.mul_assoc, Nat.add_assoc]

/-- A field is zero if its two parts are. -/
theorem field_eq_zero_of_parts {l : List Byte} {offset a b : Nat} (low : field l offset a = 0) (high : field l (offset + a) b = 0) :
    field l offset (a + b) = 0 := by
  rw [field] at low high ⊢
  rw [List.take_add, leValue_append, low, List.drop_drop, high, Nat.mul_zero]

/-- What a layout spells holds each of its fields at its place. -/
theorem field_spell {fields : List (Nat × Nat)} {offset k v : Nat} (h : fieldAt fields offset = some (k, v)) :
    field (spell fields) offset k = v % 256 ^ k := by
  induction fields generalizing offset with
  | nil => cases h
  | cons f rest ih =>
    obtain ⟨width, value⟩ := f
    cases offset with
    | zero =>
      cases h
      rw [spell_cons, field_zero_leBytes]
    | succ offset =>
      rw [fieldAt, cond_eq_ite] at h
      split at h
      case isTrue behind =>
        rw [spell_cons, field_append_right (by rw [length_leBytes]; exact Nat.le_of_ble_eq_true behind), length_leBytes, ih h]
      case isFalse => cases h

/-! ### The SUBMIT payload (R176) -/

/-- The layout of a SUBMIT payload up to its bands. -/
def submitHead (f : SubmitFields) : List (Nat × Nat) :=
  [(2, f.tag.toNat), (1, f.lane), (4, f.pnom), (2, f.d), (2, f.n), (1, f.priority), (1, f.window), (1, f.limitSet), (1, f.bands.length)]

/-- The bands behind it. -/
def bandWords (bands : List Nat) : List (Nat × Nat) := bands.map fun w => (2, w)

theorem fieldAt_bandWords {bands : List Nat} {b : Nat} (inside : b < bands.length) :
    fieldAt (bandWords bands) (2 * b) = some (2, bands[b]) := by
  induction bands generalizing b with
  | nil => exact absurd inside (Nat.not_lt_zero b)
  | cons w rest ih =>
    cases b with
    | zero => rfl
    | succ b =>
      exact ih (Nat.lt_of_succ_lt_succ inside)

/-- The values of a SUBMIT fit their fields (R176). -/
structure SubmitFits (f : SubmitFields) : Prop where
  lane : f.lane < 256
  pnom : f.pnom < 256 ^ 4
  d : f.d < 256 ^ 2
  n : f.n < 256 ^ 2
  priority : f.priority < 256
  window : f.window < 256
  limitSet : f.limitSet < 256
  count : f.bands.length < 256
  words : ∀ w ∈ f.bands, w < 256 ^ 2

/-- The payload of a SUBMIT. -/
def submitPayload (f : SubmitFields) : List Byte := spell (submitHead f ++ bandWords f.bands)

theorem length_submitPayload (f : SubmitFields) : (submitPayload f).length = 15 + 2 * f.bands.length := by
  have head : (spell (submitHead f)).length = 15 := rfl
  have words : ((bandWords f.bands).map Prod.fst).sum = 2 * f.bands.length := by
    rw [bandWords, List.map_map, Function.comp_def, List.map_const', List.sum_replicate, smul_eq_mul, Nat.mul_comm]
  rw [submitPayload, spell_append, List.length_append, head, length_spell, words]

theorem field_submitPayload {f : SubmitFields} {offset k v : Nat} (h : fieldAt (submitHead f ++ bandWords f.bands) offset = some (k, v))
    (fits : v < 256 ^ k) : field (submitPayload f) offset k = v :=
  (field_spell h).trans (Nat.mod_eq_of_lt fits)

theorem field_submitPayload_band {f : SubmitFields} (fits : SubmitFits f) {b : Nat} (inside : b < f.bands.length) :
    field (submitPayload f) (15 + 2 * b) 2 = f.bands[b] := by
  have head : (spell (submitHead f)).length = 15 := rfl
  rw [submitPayload, spell_append, field_append_right (by omega), head, Nat.add_sub_cancel_left, field_spell (fieldAt_bandWords inside)]
  exact Nat.mod_eq_of_lt (fits.words _ (List.getElem_mem inside))

/-- A SUBMIT is read back from its payload. -/
theorem submitFields_submitPayload {f : SubmitFields} (fits : SubmitFits f) : submitFields (submitPayload f) = f := by
  have count : bandCount (submitPayload f) = f.bands.length := field_submitPayload rfl fits.count
  have bands : (List.range f.bands.length).map (fun b => field (submitPayload f) (15 + 2 * b) 2) = f.bands := by
    refine List.ext_getElem (by rw [List.length_map, List.length_range]) fun b _ inside => ?_
    rw [List.getElem_map, List.getElem_range, field_submitPayload_band fits inside]
  have tag : field (submitPayload f) 0 2 = f.tag.toNat := field_submitPayload rfl f.tag.isLt
  have lane : byteAt (submitPayload f) 2 = f.lane := field_submitPayload rfl fits.lane
  have pnom : field (submitPayload f) 3 4 = f.pnom := field_submitPayload rfl fits.pnom
  have d : field (submitPayload f) 7 2 = f.d := field_submitPayload rfl fits.d
  have n : field (submitPayload f) 9 2 = f.n := field_submitPayload rfl fits.n
  have priority : byteAt (submitPayload f) 11 = f.priority := field_submitPayload rfl fits.priority
  have window : byteAt (submitPayload f) 12 = f.window := field_submitPayload rfl fits.window
  have limitSet : byteAt (submitPayload f) 13 = f.limitSet := field_submitPayload rfl fits.limitSet
  rw [submitFields, tag, lane, pnom, d, n, priority, window, limitSet, count, bands, BitVec.ofNat_toNat, BitVec.setWidth_eq]

/-- Settles O35: the payload is the layout of its fields, which is read back. -/
theorem submitLayout : Obligations.SubmitLayout := by
  intro tag lane priority window limitSet pnom d n bands few
  let f : SubmitFields := ⟨tag, lane.toNat, pnom.toNat, d.toNat, n.toNat, priority.toNat, window.toNat, limitSet.toNat,
    bands.map BitVec.toNat⟩
  have count : f.bands.length = bands.length := List.length_map ..
  have fits : SubmitFits f := {
    lane := lane.isLt, pnom := pnom.isLt, d := d.isLt, n := n.isLt, priority := priority.isLt, window := window.isLt
    limitSet := limitSet.isLt, count := by omega
    words := fun w hw => by
      obtain ⟨word, -, rfl⟩ := List.mem_map.mp hw
      exact word.isLt }
  have layout : submitPayload f = leBytes 2 tag.toNat ++ [lane] ++ leBytes 4 pnom.toNat ++ leBytes 2 d.toNat ++ leBytes 2 n.toNat ++
      [priority, window, limitSet, BitVec.ofNat 8 bands.length] ++ bands.flatMap fun w => leBytes 2 w.toNat := by
    have words : spell (bandWords f.bands) = bands.flatMap fun w => leBytes 2 w.toNat := by
      rw [spell, bandWords, List.flatMap_map, List.flatMap_map]
    rw [submitPayload, spell_append, words, submitHead, count]
    simp only [f, spell_cons, leBytes_one_toNat, List.append_assoc]
    rfl
  dsimp only
  rw [← layout]
  exact ⟨(length_submitPayload f).trans (by rw [count]), submitFields_submitPayload fits⟩

end Sys2Proof.LayoutProofs
end

section
namespace Sys2Proof.LayoutProofs

open Sys2Proof Sys2Proof.Machine

/-! ### Values of the one-byte fields of records (R175, R178) -/

/-- The value of an optional one-byte field: 255 when absent (R175). -/
def optionValue (o : Option Byte) : Nat := (optionCode o).toNat

/-- What bit `k` adds to the value of a flags byte. -/
def flagValue (b : Bool) (k : Nat) : Nat := if b then 2 ^ k else 0

theorem flagValue_eq (b : Bool) (k : Nat) : flagValue b k = 2 ^ k * b.toNat := by
  cases b
  · exact (Nat.mul_zero _).symm
  · exact (Nat.mul_one _).symm

theorem flagByte_eq (b0 b1 b2 b3 b4 : Bool) : flagByte b0 b1 b2 b3 b4 false =
    BitVec.ofNat 8 (flagValue b0 0 + flagValue b1 1 + flagValue b2 2 + flagValue b3 3 + flagValue b4 4) := by
  simp only [flagByte, flagValue_eq, pow_zero, Nat.one_mul]
  rfl

theorem leBytes_optionValue (o : Option Byte) : leBytes 1 (optionValue o) = [optionCode o] := leBytes_one_toNat (optionCode o)

/-! ### The layout of a JOB record (R178) -/

/-- The FLAGS of a JOB record. -/
def jobFlagsValue (j : Job) (degraded : Bool) : Nat :=
  flagValue j.clamped 0 + flagValue j.raised 1 + flagValue j.bandShort 2 + flagValue degraded 3 +
    flagValue (j.result.any fun r => r.foSat) 4

/-- The W code of a band position: log₂ W, 0 for no band. -/
def bandCodeValue (bands : List Nat) (b : Nat) : Nat := Nat.log2 (bands.getD b 1)

/-- The band presence byte. -/
def bandPresenceValue (bands : List BandResult) : Nat :=
  ((List.range 4).map fun b => flagValue (bands[b]?.bind fun e => e.rms16).isSome b).sum

/-- The layout of a band entry: zeros for no band. -/
def bandEntryLayout (o : Option BandResult) : List (Nat × Nat) :=
  [(4, (o.map BandResult.loHz).getD 0), (7, (o.bind BandResult.rms16).getD 0)]

/-- The layout of a JOB record up to its RESULT. -/
def jobLayout (h : Handle) (j : Job) (lineTime : LineTime) (degraded : Bool) : List (Nat × Nat) :=
  [(1, 1), (1, h.code.toNat), (1, optionValue (j.outcome.map EndOutcome.code)), (1, optionValue (j.verdict.map fun v => v.bin.code)),
    (2, j.tag.toNat), (4, j.sequence.toNat), (1, j.lane.val), (1, j.window.val), (4, j.pnom), (2, j.dEffective), (2, j.n),
    (2, j.captured), (2, j.runts), (1, j.prioEffective), (1, optionValue ((j.limitSet.map Fin.val).map (BitVec.ofNat 8))),
    (1, optionValue ((j.verdict.bind Verdict.failed).map FailedTest.code)),
    (1, optionValue (((j.verdict.bind Verdict.band).map Fin.val).map (BitVec.ofNat 8))), (1, jobFlagsValue j degraded),
    (1, j.bands.length), (1, bandCodeValue j.bands 0), (1, bandCodeValue j.bands 1), (1, bandCodeValue j.bands 2),
    (1, bandCodeValue j.bands 3), (5, lineTime.toNat), (1, if j.result.isSome then 1 else 0)]

/-- The layout of a RESULT, from byte 40 on. -/
def resultLayout (r : Result) : List (Nat × Nat) :=
  [(2, r.slips), (5, r.pjPp), (5, r.c2cMax), (6, r.mp16), (4, (r.fo % 4294967296).toNat), (6, r.pjRms16), (6, r.c2cRms16),
    (7, r.tiePp), (7, r.tieRms16), (4, r.fnomHz), (4, r.bandHiHz), (1, bandPresenceValue r.bands)] ++
    bandEntryLayout r.bands[0]? ++ bandEntryLayout r.bands[1]? ++ bandEntryLayout r.bands[2]? ++ bandEntryLayout r.bands[3]?

/-- The layout of a JOB record. -/
def jobRecordLayout (h : Handle) (j : Job) (lineTime : LineTime) (degraded : Bool) : List (Nat × Nat) :=
  jobLayout h j lineTime degraded ++ (j.result.map resultLayout).getD []

theorem bandCode_eq (bands : List Nat) (b : Nat) : bandCode bands b = BitVec.ofNat 8 (bandCodeValue bands b) := by
  rw [bandCode, bandCodeValue, List.getD_eq_getElem?_getD]
  cases bands[b]? <;> rfl

theorem bandEntry_eq (bands : List BandResult) (b : Nat) : bandEntry bands b = spell (bandEntryLayout bands[b]?) := by
  rw [bandEntry]
  cases bands[b]? <;> rfl

theorem bandPresence_eq (bands : List BandResult) : bandPresence bands = BitVec.ofNat 8 (bandPresenceValue bands) := by
  rw [bandPresence, flagByte_eq, bandPresenceValue]
  simp only [List.sum_range_succ, List.range_zero, List.map_nil, List.sum_nil, Nat.zero_add]
  rfl

theorem resultBytes_eq (r : Result) : resultBytes r = spell (resultLayout r) := by
  have fo : (BitVec.ofInt 32 r.fo).toNat = (r.fo % 4294967296).toNat := BitVec.toNat_ofInt ..
  simp only [resultBytes, resultLayout, spell_append, fo, bandEntry_eq, bandPresence_eq]
  rfl

section

variable {h : Handle} {j : Job} {lineTime : LineTime} {degraded : Bool}

theorem flags_job : (Record.job h j lineTime degraded).flags = BitVec.ofNat 8 (jobFlagsValue j degraded) := by
  rw [Record.flags, flagByte_eq, jobFlagsValue]
  cases j.result <;> rfl

theorem bytes_job : (Record.job h j lineTime degraded).bytes = spell (jobRecordLayout h j lineTime degraded) := by
  rw [Record.bytes, jobRecordBytes, jobRecordLayout, spell_append, flags_job]
  simp only [jobLayout, spell_cons, leBytes_one_toNat, leBytes_optionValue, bandCode_eq, List.append_assoc]
  cases j.result with
  | none => rfl
  | some r =>
    dsimp only
    rw [resultBytes_eq]
    rfl

theorem length_job : (Record.job h j lineTime degraded).bytes.length = if j.result.isSome then 141 else 40 := by
  have result : ∀ r, ((resultLayout r).map Prod.fst).sum = 101 := fun _ => by simp [resultLayout, bandEntryLayout]
  rw [bytes_job, length_spell, jobRecordLayout]
  cases j.result with
  | none => simp [jobLayout]
  | some r => simp [jobLayout, result]

/-- A JOB record holds each field of its layout at its place. -/
theorem field_job {offset k v : Nat} (place : fieldAt (jobRecordLayout h j lineTime degraded) offset = some (k, v)) :
    field (Record.job h j lineTime degraded).bytes offset k = v % 256 ^ k := by
  rw [bytes_job, field_spell place]

/-- The same with the value written in another way. -/
theorem field_job_of_eq {offset k v w : Nat} (place : fieldAt (jobRecordLayout h j lineTime degraded) offset = some (k, v))
    (same : v = w) : field (Record.job h j lineTime degraded).bytes offset k = w % 256 ^ k := same ▸ field_job place

/-- The same for a record with a RESULT. -/
theorem field_result {r : Result} (result : j.result = some r) {offset k v : Nat}
    (place : fieldAt (jobLayout h j lineTime degraded ++ resultLayout r) offset = some (k, v)) :
    field (Record.job h j lineTime degraded).bytes offset k = v % 256 ^ k := by
  refine field_job ?_
  rw [jobRecordLayout, result]
  exact place

/-- The two parts of each band entry of a RESULT. -/
theorem field_band {r : Result} (result : j.result = some r) (b : Fin 4) :
    field (Record.job h j lineTime degraded).bytes (97 + 11 * b.val) 4 = (r.bands[b.val]?.map BandResult.loHz).getD 0 % 256 ^ 4 ∧
      field (Record.job h j lineTime degraded).bytes (101 + 11 * b.val) 7 = (r.bands[b.val]?.bind BandResult.rms16).getD 0 % 256 ^ 7 := by
  match b with
  | 0 | 1 | 2 | 3 => exact ⟨field_result result rfl, field_result result rfl⟩

end

end Sys2Proof.LayoutProofs
end

section
namespace Sys2Proof.LayoutProofs

open Sys2Proof Sys2Proof.Machine Sys2Proof.LaneProofs

/-! ### Service records (R178) -/

theorem flags_service (r : ServiceReport) (lineTime : LineTime) (degraded older : Bool) :
    (Record.service r lineTime degraded older).flags = BitVec.ofNat 8 ((if degraded then 8 else 0) + if older then 32 else 0) := by
  cases degraded <;> cases older <;> rfl

theorem serviceCode_eq (x : Service) : x.code = (match x with | .inService => 0 | .outOfService => 1 | .suspect => 2 : Byte) := by
  cases x <;> rfl

/-- Settles O56: a JOB record by the places of its layout, the service records by their flags and codes. -/
theorem recordLayout : Obligations.RecordLayout := by
  refine ⟨fun h j lineTime degraded => ?_, fun o first last written skipped lineTime degraded older => ?_,
    fun o mask e tolerance threshold scored errors service lineTime degraded older => ?_⟩
  · dsimp only
    refine ⟨length_job, field_job rfl, field_job rfl, ?_, fun ⟨bin, failed, band⟩ verdict => ⟨?_, ?_, ?_⟩, field_job rfl, field_job rfl,
      field_job rfl, field_job rfl, field_job rfl, field_job rfl, field_job rfl, field_job rfl, field_job rfl, field_job rfl, ?_,
      field_job rfl, field_job rfl, fun b => ?_, field_job rfl, field_job rfl, fun r result =>
        ⟨field_result result rfl, field_result result rfl, field_result result rfl, field_result result rfl, field_result result rfl,
          field_result result rfl, field_result result rfl, field_result result rfl, field_result result rfl, field_result result rfl,
          field_result result rfl, field_result result rfl, fun b => ?_⟩⟩
    · refine field_job_of_eq rfl ?_
      rcases j.outcome with _ | o
      · rfl
      · cases o <;> rfl
    · refine field_job_of_eq rfl ?_
      rw [verdict]
      cases bin <;> rfl
    · refine field_job_of_eq rfl ?_
      rw [verdict, Option.bind_some]
      rcases failed with _ | test
      · rfl
      · cases test <;> rfl
    · refine field_job_of_eq rfl ?_
      rw [verdict, Option.bind_some]
      rcases band with _ | b
      · rfl
      · exact toNat_ofNat_fin (by decide) b
    · refine field_job_of_eq rfl ?_
      rcases j.limitSet with _ | x
      · rfl
      · exact toNat_ofNat_fin (by decide) x
    · match b with
      | 0 | 1 | 2 | 3 => exact field_job rfl
    · obtain ⟨lo, rms⟩ := field_band (h := h) (lineTime := lineTime) (degraded := degraded) result b
      refine ⟨fun absent => ?_, fun e present => ?_⟩
      · rw [absent] at lo rms
        exact field_eq_zero_of_parts (a := 4) lo (by rw [Nat.add_right_comm]; exact rms)
      · rw [present] at lo rms
        exact ⟨lo, rms⟩
  · rw [Record.bytes, flags_service]
    rfl
  · rw [Record.bytes, flags_service]
    simp only [serviceRecordBytes, serviceCode_eq]
    rfl

end Sys2Proof.LayoutProofs
end

section
namespace Sys2Proof.ClockProofs

open Sys2Proof Sys2Proof.Machine Sys2Proof.LaneProofs

/-! ### Places of the present coarse period (entry 2) -/

theorem reach_fine_toNat (s : State) (place : Fine) : (s.reach place).ref.fine.toNat = max s.ref.fine.toNat place.toNat := by
  change (if s.ref.fine ≤ place then place else s.ref.fine).toNat = _
  split <;> rename_i h <;> rw [BitVec.le_def] at h <;> omega

/-- A place that the period has reached already is not reached again. -/
theorem reach_of_le {s : State} {place : Fine} (h : place.toNat ≤ s.ref.fine.toNat) : s.reach place = s := by
  have same : (if s.ref.fine ≤ place then place else s.ref.fine) = s.ref.fine := by
    split
    · rename_i le
      rw [BitVec.le_def] at le
      exact BitVec.eq_of_toNat_eq (Nat.le_antisymm h le)
    · rfl
  rw [State.reach, same]

theorem reach_of_ge {s : State} {place : Fine} (h : s.ref.fine ≤ place) :
    s.reach place = { s with ref := { s.ref with fine := place } } := by
  rw [State.reach, if_pos h]

theorem le_fine_reach (s : State) (place : Fine) : place.toNat ≤ (s.reach place).ref.fine.toNat := by
  rw [reach_fine_toNat]
  exact Nat.le_max_right _ _

theorem reach_reach (s : State) (place : Fine) : (s.reach place).reach place = s.reach place := reach_of_le (le_fine_reach s place)

/-- What is due in the period does not depend on how far it has run. -/
theorem due_reach (s : State) (place : Fine) : (s.reach place).due = s.due := rfl

/-- With nothing due before a place already reached, the period does not run on. -/
theorem passTo_of_reached {s : State} {place : Fine} (quiet : s.quietBefore place.toNat) (reached : place.toNat ≤ s.ref.fine.toNat) :
    s.passTo place = .next s := by rw [State.passTo_quiet quiet, reach_of_le reached]

theorem le_fine_of_passTo {s u : State} {place : Fine} (h : s.passTo place = .next u) : place.toNat ≤ u.ref.fine.toNat := by
  obtain ⟨v, -, rfl⟩ := State.passTo_next h
  exact le_fine_reach v place

/-- A command that lets the period run to a place finds there what it would find when sent after that running on. -/
theorem afterPassTo_eq {s u : State} {place : Fine} (h : s.passTo place = .next u) (quiet : u.quietBefore place.toNat)
    (f : State → Host.Outcome State Fault Refusal) : andThen (s.passTo place) f = andThen (u.passTo place) f := by
  rw [h, passTo_of_reached quiet (le_fine_of_passTo h)]

/-! ### What is due in a period (R2, R5, R6, R8, R20, R21, R88, R162) -/

section

variable {s : State} {place : Nat} {e : TimedEvent}

theorem mem_dueLock : (place, e) ∈ s.ref.dueLock ↔ e = .lock ∧ place = 0 ∧ s.ref.state = .acquiring ∧ 200000 ≤ s.ref.qualified := by
  unfold RefMonitor.dueLock
  split
  · rename_i h
    simp only [List.mem_singleton, Prod.mk.injEq]
    exact ⟨fun ⟨p, l⟩ => ⟨l, p, h⟩, fun ⟨l, p, _⟩ => ⟨p, l⟩⟩
  · rename_i h
    exact ⟨nofun, fun ⟨_, _, now⟩ => absurd now h⟩

theorem mem_dueEdges {c : ChannelNo} : (place, e) ∈ s.dueEdges c ↔ ∃ (k : LaneNo) (q : Qualifier) (t : Timestamp),
    e = .edge c (t.extractLsb' 0 16) ∧ place = (t.extractLsb' 0 16).toNat ∧ s.xpoint[c] = .lane k ∧
      (s.lanes[k].settle (s.ref.counter ++ (0xFFFF : Fine))).qualifier = some q ∧ t ∈ q.emitted ∧
      t.extractLsb' 16 32 = s.ref.counter := by
  unfold State.dueEdges
  split
  · rename_i k hk
    simp only [List.mem_map, List.mem_filter, decide_eq_true_eq, Prod.mk.injEq]
    constructor
    · rintro ⟨t, ⟨ht, now⟩, rfl, rfl⟩
      rcases hq : (s.lanes[k].settle (s.ref.counter ++ (0xFFFF : Fine))).qualifier with _ | q
      · rw [hq] at ht
        cases ht
      · rw [hq] at ht
        exact ⟨k, q, t, rfl, rfl, hk, hq, ht, now⟩
    · rintro ⟨k', q, t, rfl, rfl, hk', hq, ht, now⟩
      cases hk.symm.trans hk'
      exact ⟨t, ⟨by rw [hq]; exact ht, now⟩, rfl, rfl⟩
  · rename_i h
    exact ⟨nofun, fun ⟨k, _, _, _, _, hk, _⟩ => by cases h.symm.trans hk⟩
  · rename_i h
    exact ⟨nofun, fun ⟨k, _, _, _, _, hk, _⟩ => by cases h.symm.trans hk⟩

theorem mem_dueStarvation {c : ChannelNo} :
    (place, e) ∈ s.dueStarvation c ↔ e = .starvation c ∧ s.chans[c].timer = some place ∧ place < 65536 := by
  unfold State.dueStarvation
  split
  · rename_i r hr
    simp only [hr, Option.some.injEq]
    split
    · rename_i lt
      simp only [List.mem_singleton, Prod.mk.injEq]
      exact ⟨fun ⟨p, l⟩ => ⟨l, p.symm, p ▸ lt⟩, fun ⟨l, p, _⟩ => ⟨p.symm, l⟩⟩
    · rename_i ge
      exact ⟨nofun, fun ⟨_, p, lt⟩ => absurd (p ▸ lt) ge⟩
  · rename_i h
    exact ⟨nofun, fun ⟨_, p, _⟩ => by cases h.symm.trans p⟩

theorem calEdgeDue_iff : s.calEdgeDue = true ↔
    s.verif.running = true ∧ s.verif.emitted < s.verif.e + 3 ∧ s.verif.nextEdge.extractLsb' 16 32 = s.ref.counter := by
  simp only [State.calEdgeDue, Bool.and_eq_true, decide_eq_true_eq, and_assoc]
  rfl

theorem mem_dueCalEdge : (place, e) ∈ s.dueCalEdge ↔ e = .calEdge ∧ place = (s.verif.nextEdge.extractLsb' 0 16).toNat ∧
    s.verif.running = true ∧ s.verif.emitted < s.verif.e + 3 ∧ s.verif.nextEdge.extractLsb' 16 32 = s.ref.counter := by
  rw [← calEdgeDue_iff]
  unfold State.dueCalEdge
  split
  · rename_i h
    simp only [List.mem_singleton, Prod.mk.injEq, finePart]
    exact ⟨fun ⟨p, l⟩ => ⟨l, p, h⟩, fun ⟨l, p, _⟩ => ⟨p, l⟩⟩
  · rename_i h
    exact ⟨nofun, fun ⟨_, _, now⟩ => absurd now h⟩

theorem mem_dueUnit : (place, e) ∈ s.ref.dueUnit ↔ e = .rcLineTime ∧ s.ref.state ≠ .locked ∧ place = s.ref.rcEnd ∧ place < 65536 := by
  unfold RefMonitor.dueUnit
  split
  · rename_i h
    simp only [List.mem_singleton, Prod.mk.injEq]
    exact ⟨fun ⟨p, l⟩ => ⟨l, h.1, p, p ▸ h.2⟩, fun ⟨l, _, p, _⟩ => ⟨p, l⟩⟩
  · rename_i h
    exact ⟨nofun, fun ⟨_, away, p, lt⟩ => absurd ⟨away, p ▸ lt⟩ h⟩

theorem mem_dueAbsence : (place, e) ∈ s.ref.dueAbsence ↔ e = .absence ∧ place = s.ref.absenceEnd ∧ place < 65536 := by
  unfold RefMonitor.dueAbsence
  split
  · rename_i h
    simp only [List.mem_singleton, Prod.mk.injEq]
    exact ⟨fun ⟨p, l⟩ => ⟨l, p, p ▸ h⟩, fun ⟨l, p, _⟩ => ⟨p, l⟩⟩
  · rename_i h
    exact ⟨nofun, fun ⟨_, p, lt⟩ => absurd (p ▸ lt) h⟩

theorem mem_due : (place, e) ∈ s.due ↔ (place, e) ∈ s.ref.dueLock ∨ (∃ c, (place, e) ∈ s.dueEdges c) ∨
    (∃ c, (place, e) ∈ s.dueStarvation c) ∨ (place, e) ∈ s.dueCalEdge ∨ (place, e) ∈ s.ref.dueUnit ∨ (place, e) ∈ s.ref.dueAbsence := by
  simp only [State.due, List.mem_append, List.mem_insertionSort, List.mem_flatMap, List.mem_finRange, true_and, or_assoc]

/-- Every place of a due event lies within the period. -/
theorem place_lt_of_mem_due (h : (place, e) ∈ s.due) : place < 65536 := by
  rcases mem_due.mp h with lock | ⟨c, edge⟩ | ⟨c, expiry⟩ | cal | unit | absence
  · obtain ⟨-, p, -⟩ := mem_dueLock.mp lock
    omega
  · obtain ⟨_, _, t, -, rfl, -⟩ := mem_dueEdges.mp edge
    exact BitVec.isLt _
  · exact (mem_dueStarvation.mp expiry).2.2
  · obtain ⟨-, rfl, -⟩ := mem_dueCalEdge.mp cal
    exact BitVec.isLt _
  · exact (mem_dueUnit.mp unit).2.2.2
  · exact (mem_dueAbsence.mp absence).2.2

end

/-! ### The order in which events are taken (entry 30) -/

/-- The order of the kinds of events at one place. -/
def rank : TimedEvent → Nat
  | .lock => 0
  | .edge _ _ => 1
  | .starvation _ => 2
  | .calEdge => 3
  | .rcLineTime => 4
  | .absence => 5
  | .lineTime => 6

/-- At one place `x` may come before `y`; nothing comes after an absence expiry. -/
def MayPrecede (x y : TimedEvent) : Prop := rank x ≤ rank y ∧ x ≠ .absence

/-- `x` is taken before `y`: at an earlier place, or at the same one by its kind. -/
def Precedes (x y : DueEvent) : Prop := x.1 < y.1 ∨ (x.1 = y.1 ∧ MayPrecede x.2 y.2)

/-- An event placed by its instant among events that may all follow it at one instant stands before those of its own instant. -/
theorem orderedInsert_precedes {x : DueEvent} {l : List DueEvent} (sorted : l.Pairwise Precedes)
    (first : ∀ y ∈ l, MayPrecede x.2 y.2) : (l.orderedInsert (fun x y => x.1 ≤ y.1) x).Pairwise Precedes := by
  induction l with
  | nil => exact List.pairwise_singleton _ _
  | cons y l ih =>
    obtain ⟨head, tail⟩ := List.pairwise_cons.mp sorted
    rw [List.orderedInsert_cons]
    split
    · rename_i le
      refine List.pairwise_cons.mpr ⟨fun z hz => ?_, sorted⟩
      have through : y.1 ≤ z.1 := by
        rcases List.mem_cons.mp hz with rfl | hz
        · exact Nat.le_refl _
        · exact (head z hz).elim Nat.le_of_lt fun h => Nat.le_of_eq h.1
      exact (Nat.lt_or_eq_of_le (Nat.le_trans le through)).imp_right fun same => ⟨same, first z hz⟩
    · rename_i gt
      refine List.pairwise_cons.mpr ⟨fun z hz => ?_, ih tail fun z hz => first z (List.mem_cons_of_mem y hz)⟩
      rcases List.mem_orderedInsert _ |>.mp hz with rfl | hz
      · exact .inl (Nat.lt_of_not_le gt)
      · exact head z hz

/-- Events listed by their kinds and sorted by their instants are in the order of entry 30. -/
theorem insertionSort_precedes {l : List DueEvent} (kinds : l.Pairwise fun x y => MayPrecede x.2 y.2) :
    (l.insertionSort fun x y => x.1 ≤ y.1).Pairwise Precedes := by
  induction l with
  | nil => exact List.Pairwise.nil
  | cons x l ih =>
    obtain ⟨head, tail⟩ := List.pairwise_cons.mp kinds
    exact orderedInsert_precedes (ih tail) fun y hy => head y (List.mem_insertionSort _ |>.mp hy)

theorem mayPrecede_of_rank {x y : TimedEvent} (h : rank x ≤ rank y) (early : rank x ≤ 4) : MayPrecede x y :=
  ⟨h, fun absence => by rw [absence] at early; exact absurd early (by decide)⟩

/-- Events of one early kind are in order. -/
theorem pairwise_of_rank {l : List DueEvent} {n : Nat} (early : n ≤ 4) (h : ∀ x ∈ l, rank x.2 = n) :
    l.Pairwise fun x y => MayPrecede x.2 y.2 :=
  List.pairwise_of_forall_mem_list fun x hx y hy => mayPrecede_of_rank (by rw [h x hx, h y hy]) (by rw [h x hx]; exact early)

/-- Behind events of earlier kinds stand those of a later one. -/
theorem pairwise_append_of_rank {l r : List DueEvent} {n : Nat} (early : n ≤ 4) (hl : l.Pairwise fun x y => MayPrecede x.2 y.2)
    (hr : r.Pairwise fun x y => MayPrecede x.2 y.2) (below : ∀ x ∈ l, rank x.2 ≤ n) (above : ∀ y ∈ r, n ≤ rank y.2) :
    (l ++ r).Pairwise fun x y => MayPrecede x.2 y.2 :=
  List.pairwise_append.mpr ⟨hl, hr, fun x hx y hy =>
    mayPrecede_of_rank (Nat.le_trans (below x hx) (above y hy)) (Nat.le_trans (below x hx) early)⟩

section

variable (s : State)

theorem rank_dueEdges : ∀ x ∈ (List.finRange 4).flatMap s.dueEdges, rank x.2 = 1 := by
  intro x hx
  obtain ⟨c, -, hx⟩ := List.mem_flatMap.mp hx
  obtain ⟨_, _, _, edge, -⟩ := mem_dueEdges.mp hx
  rw [edge]
  rfl

theorem rank_dueStarvation : ∀ x ∈ (List.finRange 4).flatMap s.dueStarvation, rank x.2 = 2 := by
  intro x hx
  obtain ⟨c, -, hx⟩ := List.mem_flatMap.mp hx
  rw [(mem_dueStarvation.mp hx).1]
  rfl

theorem rank_dueCalEdge : ∀ x ∈ s.dueCalEdge, rank x.2 = 3 := by
  intro x hx
  rw [(mem_dueCalEdge.mp hx).1]
  rfl

theorem rank_dueUnit : ∀ x ∈ s.ref.dueUnit, rank x.2 = 4 := by
  intro x hx
  rw [(mem_dueUnit.mp hx).1]
  rfl

theorem rank_dueAbsence : ∀ x ∈ s.ref.dueAbsence, rank x.2 = 5 := by
  intro x hx
  rw [(mem_dueAbsence.mp hx).1]
  rfl

theorem dueAbsence_pairwise : s.ref.dueAbsence.Pairwise fun x y => MayPrecede x.2 y.2 := by
  unfold RefMonitor.dueAbsence
  split
  · exact List.pairwise_singleton _ _
  · exact List.Pairwise.nil

/-- The events of the period stand in the order of their places, and at one place in that of their kinds. -/
theorem due_precedes : s.due.Pairwise Precedes := by
  have edges := rank_dueEdges s
  have expiries := rank_dueStarvation s
  have cal := rank_dueCalEdge s
  have unit := rank_dueUnit s
  have absence := rank_dueAbsence s
  refine List.pairwise_append.mpr ⟨?_, insertionSort_precedes ?_, fun x hx y hy => ?_⟩
  · unfold RefMonitor.dueLock
    split
    · exact List.pairwise_singleton _ _
    · exact List.Pairwise.nil
  · refine pairwise_append_of_rank (n := 4) (by decide) (pairwise_append_of_rank (n := 3) (by decide)
      (pairwise_append_of_rank (n := 2) (by decide) (pairwise_append_of_rank (n := 1) (by decide) (pairwise_of_rank (by decide) edges)
        (pairwise_of_rank (by decide) expiries) ?_ ?_) (pairwise_of_rank (by decide) cal) ?_ ?_)
      (pairwise_of_rank (by decide) unit) ?_ ?_) (dueAbsence_pairwise s) ?_ ?_ <;>
    · intro x hx
      grind
  · obtain ⟨lock, place, -⟩ := mem_dueLock.mp hx
    rw [Precedes, place]
    refine (Nat.eq_zero_or_pos y.1).symm.imp_right fun zero => ⟨zero.symm, ?_⟩
    rw [lock]
    exact mayPrecede_of_rank (Nat.zero_le _) (by decide)

theorem due_sorted : s.due.Pairwise fun x y => x.1 ≤ y.1 :=
  (due_precedes s).imp fun h => h.elim Nat.le_of_lt fun h => Nat.le_of_eq h.1

/-- At one place an event is followed by those alone that may come after it. -/
theorem mayPrecede_of_due {before after : List DueEvent} {place : Nat} {e e' : TimedEvent} (split : s.due = before ++ (place, e) :: after)
    (later : (place, e') ∈ after) : MayPrecede e e' := by
  have sorted := due_precedes s
  rw [split] at sorted
  obtain ⟨-, tail, -⟩ := List.pairwise_append.mp sorted
  exact ((List.pairwise_cons.mp tail).1 _ later).elim (fun lt => absurd lt (Nat.lt_irrefl place)) And.right

end

end Sys2Proof.ClockProofs
end

section
namespace Sys2Proof.ClockProofs

open Sys2Proof Sys2Proof.Machine Sys2Proof.LaneProofs

/-! ### The step, and events taken one after another (entries 1 and 2) -/

theorem step_of_pending {s : State} {i : Instr} {rest : List Instr} (h : s.pending = i :: rest) :
    step s = exec i { s with pending := rest } := by rw [step, h]

theorem step_of_empty {s : State} (h : s.pending = []) : step s = s.idle := by rw [step, h]

theorem runAll_cons_of_take {s t : State} {place : Nat} {e : TimedEvent} (h : e.take (s.upTo (BitVec.ofNat 16 place)) = .next t)
    (rest : List DueEvent) : runAll ((place, e) :: rest) s = runAll rest t := by
  change andThen (e.take (s.upTo (BitVec.ofNat 16 place))) (runAll rest) = _
  rw [h, andThen_next]

/-- Settles O1: the step and the idle step by their queues, and a list of due events by its first. -/
theorem stepRunsFrontCommand : Obligations.StepRunsFrontCommand := by
  refine ⟨fun s => ⟨fun i rest h => step_of_pending h, fun u t empty hu ht => ?_, fun empty nothing quiet => ?_⟩,
    fun s t place e rest h => runAll_cons_of_take h rest⟩
  · rw [step_of_empty empty, State.idle, hu, andThen_next, ht]
  · rw [step_of_empty empty, State.idle, nothing, runAll_nil, andThen_next, quiet, runAll_nil]

/-! ### Timers of the RC oscillator (R5, R6, entry 8) -/

theorem rcEndPlace_toNat {present : Fine} {latest range : Nat} (h : latest - range < 65536) :
    (rcEndPlace present latest range).toNat = min (max present.toNat (latest - range)) latest := by
  have fits := present.isLt
  rw [rcEndPlace, BitVec.toNat_ofNat]
  exact Nat.mod_eq_of_lt (by omega)

/-- A timer ends where it would have ended once the period has run on to that place and no further than it must. -/
theorem rcEndPlace_of_reached {present present' : Fine} {latest range : Nat} (h : latest - range < 65536)
    (reached : (rcEndPlace present latest range).toNat ≤ present'.toNat)
    (held : present'.toNat ≤ (rcEndPlace present latest range).toNat ∨ latest ≤ present.toNat) :
    rcEndPlace present' latest range = rcEndPlace present latest range := by
  refine BitVec.eq_of_toNat_eq ?_
  rw [rcEndPlace_toNat h] at reached held ⊢
  rw [rcEndPlace_toNat h]
  omega

/-- At its latest end a timer ends there. -/
theorem rcEndPlace_of_latest {present : Fine} {latest range : Nat} (within : latest < 65536) (reached : latest ≤ present.toNat) :
    rcEndPlace present latest range = BitVec.ofNat 16 latest := by
  refine BitVec.eq_of_toNat_eq ?_
  rw [rcEndPlace_toNat (by omega), BitVec.toNat_ofNat, Nat.mod_eq_of_lt within]
  omega

theorem rcMayEnd_iff {latest range : Nat} : rcMayEnd latest range = true ↔ latest - range < 65536 := by
  rw [rcMayEnd, decide_eq_true_iff, Config.ticksPerCoarse]
  omega

theorem mayExpire_iff {r : RefMonitor} : r.mayExpire = true ↔ r.absenceEnd - 262144 < 65536 := rcMayEnd_iff

theorem mayAdvance_iff {r : RefMonitor} : r.mayAdvance = true ↔ r.state ≠ .locked ∧ r.rcEnd - 640000000 < 65536 := by
  rw [RefMonitor.mayAdvance, Bool.and_eq_true, decide_eq_true_iff]
  exact and_congr_right fun _ => rcMayEnd_iff

theorem mayExpire_eq_false {r : RefMonitor} (h : 65536 ≤ r.absenceEnd - 262144) : r.mayExpire = false :=
  Bool.eq_false_iff.mpr fun may => Nat.not_lt.mpr h (mayExpire_iff.mp may)

theorem mayAdvance_eq_false {r : RefMonitor} (h : r.state = .locked ∨ 65536 ≤ r.rcEnd - 640000000) : r.mayAdvance = false :=
  Bool.eq_false_iff.mpr fun may => h.elim (mayAdvance_iff.mp may).1 fun h => Nat.not_lt.mpr h (mayAdvance_iff.mp may).2

theorem ofNat_toNat_of_lt {place : Nat} (within : place < 65536) : (BitVec.ofNat 16 place : Fine).toNat = place := by
  rw [BitVec.toNat_ofNat, Nat.mod_eq_of_lt within]

/-! ### What events leave alone: the monitor, the queue and the free values -/

/-- From `s` to `t` the Reference Monitor, the queue of commands and the free values drawn have stayed. -/
structure LeavesClock (s t : State) : Prop where
  ref : t.ref = s.ref := by rfl
  pending : t.pending = s.pending := by rfl
  draws : t.draws = s.draws := by rfl

theorem LeavesClock.trans {s t u : State} (h : LeavesClock s t) (h' : LeavesClock t u) : LeavesClock s u :=
  ⟨h'.ref.trans h.ref, h'.pending.trans h.pending, h'.draws.trans h.draws⟩

section

variable (s : State)

theorem arbitrate_leavesClock : LeavesClock s s.arbitrate := ⟨s.arbitrate_ref, s.arbitrate_pending, s.arbitrate_draws⟩

theorem afterAcquisition_leavesClock : LeavesClock s s.afterAcquisition :=
  ⟨s.afterAcquisition_ref, s.afterAcquisition_pending, s.afterAcquisition_draws⟩

theorem modifyJob_leavesClock (i : SlotNo) (f : Job → Job) : LeavesClock s (s.modifyJob i f) := by
  obtain ⟨_, frame⟩ := s.modifyJob_frame i f
  rw [frame]
  exact {}

theorem completeJob_leavesClock (i : SlotNo) (o : EndOutcome) (v : Verdict) : LeavesClock s (s.completeJob i o v) := by
  obtain ⟨_, _, _, _, _, frame⟩ := s.completeJob_frame i o v
  rw [frame]
  exact {}

theorem edgeComes_leavesClock {t : State} {c : ChannelNo} {fine : Fine} (h : s.edgeComes c fine = .next t) : LeavesClock s t := by
  obtain ⟨_, _, _, _, _, _, _, _, frame⟩ := edgeComes_frame h
  rw [frame]
  exact {}

theorem timerExpires_leavesClock (c : ChannelNo) : LeavesClock s (s.timerExpires c) := by
  unfold State.timerExpires
  split
  · rename_i h _ _ _ _
    split
    · exact (LeavesClock.mk (s.stopChannel_ref c) (s.stopChannel_pending c) (s.stopChannel_draws c)).trans
        ((completeJob_leavesClock _ h.slot .noEdges .aborted).trans (afterAcquisition_leavesClock _))
    · exact {}
  · exact {}

theorem endCheck_leavesClock (o : EndOutcome) : LeavesClock s (s.endCheck o) := ⟨s.endCheck_ref o, s.endCheck_pending o, s.endCheck_draws o⟩

theorem calEdgeComes_leavesClock (e0 e1 e2 e3 : Int) : LeavesClock s (s.calEdgeComes e0 e1 e2 e3) := by
  unfold State.calEdgeComes
  split
  · dsimp only
    split
    · exact LeavesClock.trans {} ((endCheck_leavesClock _ .done).trans (arbitrate_leavesClock _))
    · exact {}
  · exact {}

theorem inputChanges_leavesClock (k : LaneNo) : LeavesClock s (s.inputChanges k) := by
  unfold State.inputChanges
  dsimp only
  split
  · exact {}
  · split
    · unfold State.countRunt
      split
      · exact LeavesClock.trans {} (modifyJob_leavesClock _ _ _)
      · exact {}
    · exact {}

/-! ### What events do to the monitor -/

theorem referenceLocks_of_due (acquiring : s.ref.state = .acquiring) (full : 200000 ≤ s.ref.qualified) :
    s.referenceLocks = ({ s with ref := s.ref.lock } : State).arbitrate := if_pos ⟨acquiring, full⟩

theorem referenceLocks_of_not_due (h : ¬ (s.ref.state = .acquiring ∧ Config.qualifyingEdges ≤ s.ref.qualified)) : s.referenceLocks = s :=
  if_neg h

/-- The LOSS event of a loss in `s` (R13). -/
def lossEvent : RefEvent := ⟨.loss, s.ref.lineTime, s.acquiringChannels.length, s.verif.running⟩

/-- The part after the acquisitions and the check have ended by a loss, before its event is written and the hold tested. -/
def endedByLoss : State := (({ s with ref := s.ref.lose }.refreshAttn 0).endAcquisitions).endCheckIfRunning

theorem loseReference_eq : s.loseReference =
    ({ endedByLoss s with ref := (endedByLoss s).ref.writeEvent (lossEvent s) } : State).afterAcquisition := rfl

theorem endCheckIfRunning_frame : ∃ xpoint chans queues verif, s.endCheckIfRunning = { s with xpoint, chans, queues, verif } := by
  unfold State.endCheckIfRunning
  split
  · exact s.endCheck_frame .refLost
  · exact ⟨_, _, _, _, rfl⟩

theorem endedByLoss_frame : ∃ lanes xpoint table held chans pages limits queues verif,
    endedByLoss s = { s with ref := s.ref.lose, lanes, xpoint, table, held, chans, pages, limits, queues, verif } := by
  obtain ⟨l, x, t, e, c, g, m, q, ends⟩ := endAcquisitions_frame ({ s with ref := s.ref.lose }.refreshAttn 0)
  obtain ⟨x', c', q', v, check⟩ := endCheckIfRunning_frame ({ s with ref := s.ref.lose }.refreshAttn 0).endAcquisitions
  exact ⟨l, x', t, e, c', g, m, q', v, by rw [endedByLoss, check, ends]; rfl⟩

/-- A loss changes the monitor as R9 and R13 say, and of the rest the blocks that depend on lock alone (R9). -/
theorem loseReference_frame : ∃ lanes xpoint table held hold chans pages limits queues verif, s.loseReference =
    { s with
      ref := s.ref.lose.writeEvent (lossEvent s)
      lanes, xpoint, table, held, hold, chans, pages, limits, queues, verif } := by
  obtain ⟨_, _, _, e, _, g, m, q, v, ends⟩ := endedByLoss_frame s
  obtain ⟨l, x, t, d, c, after⟩ :=
    ({ endedByLoss s with ref := (endedByLoss s).ref.writeEvent (lossEvent s) } : State).afterAcquisition_frame
  exact ⟨l, x, t, e, d, c, g, m, q, v, by rw [loseReference_eq, after, ends]⟩

theorem absenceComes_of_not_mayExpire {s : State} (h : s.ref.mayExpire = false) : s.absenceComes = s := by
  rw [State.absenceComes, h]
  rfl

theorem absenceComes_of_mayExpire {s : State} (h : s.ref.mayExpire = true) : s.absenceComes = s.absenceExpires := if_pos h

theorem lineTimeRcAdvances_of_not_mayAdvance {s : State} (h : s.ref.mayAdvance = false) : s.lineTimeRcAdvances = s := by
  rw [State.lineTimeRcAdvances, h]
  rfl

/-- From `s` to `t` the queue of commands and the free values drawn have stayed, and no coarse clock edge has come. -/
structure LeavesQueue (s t : State) : Prop where
  pending : t.pending = s.pending := by rfl
  draws : t.draws = s.draws := by rfl
  counter : t.ref.counter = s.ref.counter := by rfl

theorem LeavesQueue.trans {s t u : State} (h : LeavesQueue s t) (h' : LeavesQueue t u) : LeavesQueue s u :=
  ⟨h'.pending.trans h.pending, h'.draws.trans h.draws, h'.counter.trans h.counter⟩

theorem LeavesClock.leavesQueue {s t : State} (h : LeavesClock s t) : LeavesQueue s t :=
  ⟨h.pending, h.draws, by rw [h.ref]⟩

theorem reach_leavesQueue (place : Fine) : LeavesQueue s (s.reach place) := {}

theorem referenceLocks_leavesQueue : LeavesQueue s s.referenceLocks := by
  unfold State.referenceLocks
  split
  · exact LeavesQueue.trans {} (arbitrate_leavesClock _).leavesQueue
  · exact {}

theorem loseReference_leavesQueue : LeavesQueue s s.loseReference := by
  obtain ⟨_, _, _, _, _, _, _, _, _, _, frame⟩ := loseReference_frame s
  rw [frame]
  exact {}

theorem absenceExpires_leavesQueue : LeavesQueue s s.absenceExpires := by
  unfold State.absenceExpires
  dsimp only
  split
  · exact {}
  · exact {}
  · exact LeavesQueue.trans {} (loseReference_leavesQueue _)

theorem absenceComes_leavesQueue : LeavesQueue s s.absenceComes := by
  unfold State.absenceComes
  split
  · exact absenceExpires_leavesQueue s
  · exact {}

theorem lineTimeAdvances_leavesQueue : LeavesQueue s s.lineTimeAdvances := by
  unfold State.lineTimeAdvances
  split <;> exact {}

theorem lineTimeRcAdvances_leavesQueue : LeavesQueue s s.lineTimeRcAdvances := by
  unfold State.lineTimeRcAdvances
  split <;> exact {}

theorem refinRises_leavesQueue : LeavesQueue s s.refinRises := by
  unfold State.refinRises
  dsimp only
  split <;> exact {}

/-- Every event but a CAL edge leaves the queue and the free values alone (entry 31). -/
theorem take_leavesQueue {e : TimedEvent} {t : State} (h : e.take s = .next t) (he : e ≠ .calEdge) : LeavesQueue s t := by
  cases e with
  | lock => cases h; exact referenceLocks_leavesQueue s
  | edge c fine => exact (edgeComes_leavesClock s h).leavesQueue
  | starvation c => cases h; exact (timerExpires_leavesClock s c).leavesQueue
  | calEdge => exact absurd rfl he
  | rcLineTime => cases h; exact lineTimeRcAdvances_leavesQueue s
  | absence => cases h; exact absenceComes_leavesQueue s
  | lineTime => cases h; exact lineTimeAdvances_leavesQueue s

end

/-! ### What is due first does what its command does (entries 2 and 31) -/

section

variable {s t : State} {place : Nat}

/-- What happens at an instant already reached, with nothing due before it, is all that its command does. -/
theorem afterPassTo_of_reached {fine : Fine} (quiet : s.quietBefore fine.toNat) (reached : fine.toNat ≤ s.ref.fine.toNat)
    (f : State → Host.Outcome State Fault Refusal) : andThen (s.passTo fine) f = f s := by
  rw [passTo_of_reached quiet reached, andThen_next]

theorem withDraws_self {n : Nat} (h : t.draws = n) : ({ t with draws := n } : State) = t := by rw [← h]

/-- An event due first, at its place already reached, is taken by its command as by the clock. -/
theorem exec_command {e : TimedEvent} (due : (place, e) ∈ s.due) (quiet : s.quietBefore place) (reached : place ≤ s.ref.fine.toNat)
    (h : e.take s = .next t) : exec (e.command s.draws) s = .next { t with draws := s.draws } := by
  have within := place_lt_of_mem_due due
  have fits := ofNat_toNat_of_lt within
  have same (he : e ≠ .calEdge) : ({ t with draws := s.draws } : State) = t := withDraws_self (take_leavesQueue s h he).draws
  rcases mem_due.mp due with lock | ⟨c, edge⟩ | ⟨c, expiry⟩ | cal | unit | absence
  · obtain ⟨rfl, -⟩ := mem_dueLock.mp lock
    rw [same nofun]
    exact h
  · obtain ⟨_, _, u, rfl, rfl, -⟩ := mem_dueEdges.mp edge
    rw [same nofun, ← h]
    exact afterPassTo_of_reached quiet reached _
  · obtain ⟨rfl, timer, -⟩ := mem_dueStarvation.mp expiry
    rw [same nofun, ← h]
    change execStarvationExpiry c s = _
    rw [execStarvationExpiry, timer]
    dsimp only
    rw [if_pos within]
    exact afterPassTo_of_reached (by rwa [fits]) (by rwa [fits]) _
  · obtain ⟨rfl, rfl, running, left, now⟩ := mem_dueCalEdge.mp cal
    cases h
    have keeps := (calEdgeComes_leavesClock s (Config.readingError s.draws 0) (Config.readingError s.draws 1)
      (Config.readingError s.draws 2) (Config.readingError s.draws 3)).draws
    dsimp only [TimedEvent.command, exec]
    rw [execCalEdge, if_pos (calEdgeDue_iff.mpr ⟨running, left, now⟩)]
    refine (afterPassTo_of_reached quiet reached _).trans (congrArg Host.Outcome.next ?_)
    exact (withDraws_self keeps).symm
  · obtain ⟨rfl, away, rfl, -⟩ := mem_dueUnit.mp unit
    have latest : s.ref.unitPlace = BitVec.ofNat 16 s.ref.rcEnd := rcEndPlace_of_latest within reached
    rw [same nofun, ← h]
    dsimp only [TimedEvent.command, exec]
    rw [execLineTimeRcAdvance, if_pos (mayAdvance_iff.mpr ⟨away, by omega⟩), latest]
    exact afterPassTo_of_reached (by rwa [fits]) (by rwa [fits]) _
  · obtain ⟨rfl, rfl, -⟩ := mem_dueAbsence.mp absence
    have latest : s.ref.expiryPlace = BitVec.ofNat 16 s.ref.absenceEnd := rcEndPlace_of_latest within reached
    rw [same nofun, ← h]
    dsimp only [TimedEvent.command, exec]
    rw [execAbsenceExpiry, if_pos (mayExpire_iff.mpr (by omega)), latest]
    exact afterPassTo_of_reached (by rwa [fits]) (by rwa [fits]) _

end

/-- Settles O2: the lists of what is due by their members, their order by places and kinds, and each event due first by its command. -/
theorem dueEvents : Obligations.DueEvents := by
  refine ⟨fun s place e => ?_, due_sorted, fun s before after place => ⟨fun c c' fine split later => ?_, fun split e later => ?_⟩,
    fun r => rfl, fun s u place h => ?_, fun s t place e due quiet h => ?_⟩
  · simp only [mem_due, mem_dueLock, mem_dueEdges, mem_dueStarvation, mem_dueCalEdge, mem_dueUnit, mem_dueAbsence]
  · exact absurd (mayPrecede_of_due s split later).1 (show ¬ 2 ≤ 1 by decide)
  · exact (mayPrecede_of_due s split later).2 rfl
  · rw [State.passTo, h, andThen_next]
    rfl
  · have reached := le_fine_reach s (BitVec.ofNat 16 place)
    rw [ofNat_toNat_of_lt (place_lt_of_mem_due due)] at reached
    exact exec_command (s := s.upTo (BitVec.ofNat 16 place)) due quiet reached h

end Sys2Proof.ClockProofs
end

section
namespace Sys2Proof.ClockProofs

open Sys2Proof Sys2Proof.Machine Sys2Proof.LaneProofs

/-! ### Filters at an instant (R20, R21) -/

theorem level_iff (e : Edge) (level : Bool) : level = e.level ↔ (level = true ↔ e = .rise) := by
  cases e <;> cases level <;> decide

theorem settle_of_unconnected {l : Lane} (h : l.qualifier = none) (t : Timestamp) : l.settle t = l := by
  rw [Lane.settle, h, Option.map_none, ← h]

theorem settle_of_same {l : Lane} {q : Qualifier} {t : Timestamp} (hq : l.qualifier = some q) (same : q.settle l.level t = q) :
    l.settle t = l := by
  rw [Lane.settle, hq, Option.map_some, same, ← hq]

/-- A phase of the full width: the output has its level, and a change to the selected level emits an edge that lags by the width. -/
theorem settle_eq_of_le {q : Qualifier} {start t : Timestamp} (measured : q.phaseStart = some start)
    (long : q.filter.val * 4096 ≤ (t - start).toNat) (level : Bool) : q.settle level t = { q with
      output := level
      phaseStart := none
      emitted := if q.output ≠ level ∧ (level = true ↔ q.edge = .rise)
        then q.emitted ++ [start + BitVec.ofNat 48 (q.filter.val * 4096)] else q.emitted } := by
  rw [Qualifier.settle, measured]
  dsimp only
  rw [if_pos (show q.width ≤ ticksBetween start t from long)]
  simp only [level_iff]
  rfl

/-! ### A coarse clock edge -/

theorem tick_lanes (s : State) (k : LaneNo) : s.tick.lanes[k] = s.lanes[k].settle ((s.ref.counter + 1) ++ (0 : Fine)) :=
  getElem_ofFn_fin _ k

/-- Nothing but the monitor, the channels and the lanes follows the coarse clock. -/
theorem tick_other (s : State) : ({ s.tick with ref := s.ref, chans := s.chans, lanes := s.lanes } : State) = s := by
  obtain ⟨_, _, _, frame⟩ := s.tick_frame
  rw [frame]

theorem tick_chans (s : State) (c : ChannelNo) : s.tick.chans[c] = s.chans[c].tick := getElem_ofFn_fin _ c

/-- Settles O4: the coarse clock edge field by field, a connected lane by the phase that its filter measures. -/
theorem coarseEdge : Obligations.CoarseEdge := by
  intro s now
  refine ⟨rfl, fun c => tick_chans s c, fun k => ?_, tick_other s⟩
  rw [tick_lanes]
  refine ⟨fun stopped => ?_, fun q hq => ⟨fun unmeasured => ?_, fun start measured => ⟨fun short => ?_, fun long => ?_⟩⟩⟩
  · exact settle_of_unconnected stopped _
  · exact settle_of_same hq (Qualifier.settle_of_none unmeasured _ _)
  · exact settle_of_same hq (Qualifier.settle_of_lt measured short _)
  · rw [Lane.settle, hq, Option.map_some, settle_eq_of_le measured long]

end Sys2Proof.ClockProofs
end

section
namespace Sys2Proof.ClockProofs

open Sys2Proof Sys2Proof.Machine Sys2Proof.LaneProofs Sys2Proof.JobProofs

/-! ### Operations of requests that leave the clock alone -/

section

variable (s : State)

theorem withdraw_leavesClock (i : SlotNo) (j : Job) : LeavesClock s (s.withdraw i j) := by
  obtain ⟨_, _, _, _, _, frame⟩ := s.withdraw_frame i j
  rw [frame]
  exact {}

theorem takeHead_leavesClock : LeavesClock s s.takeHead := ⟨s.takeHead_ref, s.takeHead_pending, s.takeHead_draws⟩

theorem accept_leavesClock (p : PortNo) (i : SlotNo) (j : Job) : LeavesClock s (s.accept p i j) := by
  rw [accept_state]
  exact {}

theorem dropHead_leavesClock (p : PortNo) (rest : List Record) : LeavesClock s (s.dropHead p rest) := by
  obtain ⟨_, _, _, _, frame⟩ := (s.setQueue p { s.queues[p] with queue := rest }).admitWaiting_frame p s.queues[p].waiting
  rw [State.dropHead, frame]
  exact {}

theorem endFill_leavesClock (o : EndOutcome) : LeavesClock s (s.endFill o) := by
  obtain ⟨_, _, frame⟩ := s.endFill_frame o
  rw [frame]
  exact {}

theorem rewriteLane_leavesClock (k : LaneNo) (new : LaneConfig) : LeavesClock s (s.rewriteLane k new) :=
  ⟨s.rewriteLane_ref k new, s.rewriteLane_pending k new, s.rewriteLane_draws k new⟩

theorem visitLane_leavesClock (k : LaneNo) : LeavesClock s (s.visitLane k) := by
  unfold State.visitLane
  split
  · exact LeavesClock.trans {} (rewriteLane_leavesClock _ k _)
  · exact {}

theorem cancelJob_leavesClock (i : SlotNo) (j : Job) : LeavesClock s (s.cancelJob i j) := by
  have ended := (withdraw_leavesClock s i j).trans (completeJob_leavesClock _ i .cancelled .aborted)
  unfold State.cancelJob
  dsimp only
  split
  · exact ended.trans (afterAcquisition_leavesClock _)
  · exact ended.trans (takeHead_leavesClock _)
  all_goals exact ended

theorem portReset_leavesClock (p : PortNo) : LeavesClock s (s.portReset p) := ⟨s.portReset_ref p, s.portReset_pending p, s.portReset_draws p⟩

theorem completeReduction_leavesClock (i : SlotNo) (j : Job) : LeavesClock s (s.completeReduction i j) := by
  let result := reduce (s.capture j) j.dEffective j.pnom j.bands
  let binned := (s.setJob i (j.reduced result)).completeJob i .done (s.binOf j.limitSet j.runts result)
  have done : LeavesClock s binned := LeavesClock.trans {} (completeJob_leavesClock (s.setJob i (j.reduced result)) i .done _)
  have idle : LeavesClock binned { binned with current := none } := {}
  exact (done.trans idle).trans (takeHead_leavesClock _)

end

/-! ### Requests that leave the clock alone: all but the two that clear parts of the monitor -/

/-- A reply leaves the monitor, the queue of commands and the free values as `s` has them. -/
abbrev ReplyLeavesClock (s : State) : Reply → Prop := Leaves (LeavesClock s)

section

variable (s : State) (p : PortNo) (payload : List Byte)

theorem writeFloor_leavesClock : ReplyLeavesClock s (writeFloor s payload) := by
  unfold writeFloor
  dsimp only
  split
  · exact {}
  · split
    · exact LeavesClock.trans {} (arbitrate_leavesClock _)
    · exact {}

theorem writeProfile_leavesClock : ReplyLeavesClock s (writeProfile s payload) := by
  unfold writeProfile
  split
  · exact {}
  · split <;> exact {}

theorem writeService_leavesClock : ReplyLeavesClock s (writeService s payload) := by
  unfold writeService
  split
  · split
    · exact {}
    · split
      · exact LeavesClock.trans {} (arbitrate_leavesClock _)
      · exact {}
  · exact {}

theorem release_leavesClock : ReplyLeavesClock s (release s) := by
  unfold release
  split
  · exact {}
  · split
    · exact {}
    · exact LeavesClock.trans {} (arbitrate_leavesClock _)

theorem takeCompletion_leavesClock : ReplyLeavesClock s (Machine.takeCompletion s p) := by
  unfold Machine.takeCompletion
  split
  · exact {}
  · exact dropHead_leavesClock s p _

theorem checkChannels_leavesClock : ReplyLeavesClock s (checkChannels s payload) := by
  unfold checkChannels
  dsimp only
  split_ifs <;> exact {}

theorem stopCheck_leavesClock : ReplyLeavesClock s (stopCheck s) := by
  unfold stopCheck
  split
  · exact (endCheck_leavesClock s .stopped).trans (arbitrate_leavesClock _)
  · exact {}

theorem writeLane_leavesClock : ReplyLeavesClock s (Machine.writeLane s payload) := by
  unfold Machine.writeLane
  split
  · split
    · exact {}
    · split
      · exact {}
      · exact rewriteLane_leavesClock s _ _
  · exact {}

theorem fillLanes_leavesClock : ReplyLeavesClock s (fillLanes s payload) := by
  unfold fillLanes
  dsimp only
  split
  · split_ifs <;> exact {}
  · exact {}

theorem stopFill_leavesClock : ReplyLeavesClock s (stopFill s) := by
  unfold stopFill
  split
  · exact endFill_leavesClock s .stopped
  · exact {}

theorem submit_leavesClock : ReplyLeavesClock s (Machine.submit s p payload) := by
  unfold Machine.submit
  split
  · exact {}
  · exact (accept_leavesClock s p _ _).trans (arbitrate_leavesClock _)

theorem cancel_leavesClock : ReplyLeavesClock s (Machine.cancel s p payload) := by
  unfold Machine.cancel
  split
  · exact {}
  · split
    · exact {}
    · split
      · exact {}
      · exact cancelJob_leavesClock s _ _

theorem writeLimit_leavesClock : ReplyLeavesClock s (Machine.writeLimit s payload) := by
  unfold Machine.writeLimit
  split
  · split
    · exact {}
    · split <;> exact {}
  · exact {}

theorem freeze_leavesClock : ReplyLeavesClock s (freeze s payload) := by
  unfold freeze
  split
  · exact {}
  · split <;> exact {}

theorem thaw_leavesClock : ReplyLeavesClock s (thaw s payload) := by
  unfold thaw
  split
  · exact {}
  · split
    · exact {}
    · exact {}
    · split <;> exact {}

theorem resetPort_leavesClock : ReplyLeavesClock s (resetPort s payload) := by
  unfold resetPort
  split
  · exact {}
  · exact portReset_leavesClock s _

theorem writeWindow_leavesClock : ReplyLeavesClock s (Machine.writeWindow s payload) := by
  unfold Machine.writeWindow
  split
  · dsimp only
    split <;> exact {}
  · exact {}

end

/-! ### What a command can do to the clock -/

/-- From `s` to `t` a command has done one of these to the monitor, the queue of commands and the free values: nothing; the passing of
time to its place and nothing after it; one event of the monitor, at its place or at once; or a power-on reset. -/
inductive ClockCase (i : Instr) (s t : State) : Prop where
  | leaves : LeavesClock s t → ClockCase i s t
  | passes (place : Fine) (u : State) : s.passTo place = .next u → LeavesClock u t → ClockCase i s t
  | refinRises (u : State) : s.passTo s.ref.fine = .next u → t = u.refinRises → ClockCase i s t
  | absenceComes (u : State) : s.ref.mayExpire = true → s.passTo s.ref.expiryPlace = .next u → t = u.absenceComes → ClockCase i s t
  | unitEnds (u : State) : s.ref.mayAdvance = true → s.passTo s.ref.unitPlace = .next u → t = u.lineTimeRcAdvances → ClockCase i s t
  | locks : t = s.referenceLocks → ClockCase i s t
  | advances : t = s.lineTimeAdvances → ClockCase i s t
  | clearsReflost : s.ref.state = .locked → LeavesClock { s with ref := { s.ref with reflost := false } } t → ClockCase i s t
  | clearsEvents : LeavesClock { s with ref := { s.ref with first := none, latest := none } } t → ClockCase i s t
  | powerOn : i = .powerOnReset → t = s.poweredOn → ClockCase i s t

section

variable {i : Instr} {s t : State}

/-- A request leaves the clock as its own rule does: framing is no part of it. -/
theorem request_leavesClock {p : PortNo} {code : Byte} {bytes : List Byte} {run : List Byte → Reply}
    (ht : request p code bytes s run = .next t) (rule : ∀ payload, ReplyLeavesClock s (run payload)) : LeavesClock s t := by
  obtain rfl | rfl | ⟨_, _, rfl⟩ | ⟨payload, -, -, _, _, u, answers, rfl⟩ := request_next ht
  · exact {}
  · exact {}
  · exact {}
  · have left := rule payload
    rw [answers] at left
    exact left.trans {}

theorem fixedRequest_leavesClock {p : PortNo} {code : Byte} {bytes : List Byte} {r : Reply}
    (ht : request p code bytes s (fun _ => r) = .next t) (rule : ReplyLeavesClock s r) : LeavesClock s t :=
  request_leavesClock ht fun _ => rule

theorem fillVisit_leavesClock (ht : execFillVisit s = .next t) : LeavesClock s t := by
  unfold execFillVisit at ht
  split at ht
  · split at ht
    · split at ht <;> cases ht
      · exact (visitLane_leavesClock s _).trans (endFill_leavesClock _ .done)
      · exact visitLane_leavesClock s _
    · cases ht
      exact {}
  · cases ht
    exact {}

theorem reductionComplete_leavesClock (ht : execReductionComplete s = .next t) : LeavesClock s t := by
  unfold execReductionComplete at ht
  split at ht
  · cases ht
    exact {}
  · split at ht <;> cases ht
    exact completeReduction_leavesClock s _ _

/-- CLEAR REFLOST leaves the clock alone, or clears the flag in LOCKED (R12). -/
theorem clearReflost_clockCase {p : PortNo} {bytes : List Byte} (ht : execClearReflost p bytes s = .next t) : ClockCase i s t := by
  obtain rfl | rfl | ⟨_, _, rfl⟩ | ⟨_, -, -, _, _, u, answers, rfl⟩ := request_next ht
  · exact .leaves {}
  · exact .leaves {}
  · exact .leaves {}
  · unfold clearReflost at answers
    split at answers
    · cases answers
      exact .leaves {}
    · rename_i locked
      split at answers <;> cases answers
      · refine .clearsReflost (not_not.mp locked) ?_
        exact LeavesClock.trans {} ((arbitrate_leavesClock
          ({ s with ref := { s.ref with reflost := false } }.refreshAttn 0)).trans {})
      · exact .leaves {}

/-- CLEAR REF EVENTS leaves the clock alone, or empties the event slots (R14). -/
theorem clearRefEvents_clockCase {p : PortNo} {bytes : List Byte} (ht : execClearRefEvents p bytes s = .next t) : ClockCase i s t := by
  obtain rfl | rfl | ⟨_, _, rfl⟩ | ⟨_, -, -, _, _, u, answers, rfl⟩ := request_next ht
  · exact .leaves {}
  · exact .leaves {}
  · exact .leaves {}
  · cases answers
    exact .clearsEvents {}

/-- A command that goes on from a place, once the period has run so far. -/
theorem passes_of_andThen {place : Fine} {f : State → State} (ht : andThen (s.passTo place) (fun u => .next (f u)) = .next t)
    (keeps : ∀ u, LeavesClock u (f u)) : ClockCase i s t := by
  obtain ⟨u, hu, hf⟩ := andThen_eq_next.mp ht
  cases hf
  exact .passes place u hu (keeps u)

theorem exec_clockCase (ht : exec i s = .next t) : ClockCase i s t := by
  cases i with
  | selectAsserted p =>
    change execSelectAsserted p s = _ at ht
    unfold execSelectAsserted at ht
    split at ht
    · cases ht; exact .leaves {}
    · split at ht <;> cases ht <;> exact .leaves {}
  | selectReleased p => cases ht; exact .leaves {}
  | lastResponseByteClockedOut p =>
    change execLastResponseByteClockedOut p s = _ at ht
    unfold execLastResponseByteClockedOut at ht
    split at ht <;> cases ht <;> exact .leaves {}
  | unknownRequest p code bytes => exact .leaves (fixedRequest_leavesClock (show execUnknownRequest p code bytes s = .next t from ht) {})
  | submit p bytes => exact .leaves (request_leavesClock ht (submit_leavesClock s p))
  | cancel p bytes => exact .leaves (request_leavesClock ht (cancel_leavesClock s p))
  | readJob p bytes => exact .leaves (request_leavesClock ht (leaves_readJob (P := LeavesClock s) {} p))
  | takeCompletion p bytes => exact .leaves (fixedRequest_leavesClock ht (takeCompletion_leavesClock s p))
  | readStatus p bytes => exact .leaves (fixedRequest_leavesClock (show execReadStatus p bytes s = .next t from ht) {})
  | readSamples p bytes => exact .leaves (request_leavesClock ht (leaves_readSamples (P := LeavesClock s) {} p))
  | readLane p bytes => exact .leaves (request_leavesClock ht (leaves_readLane (P := LeavesClock s) {}))
  | readLimits p bytes => exact .leaves (request_leavesClock ht (leaves_readLimits (P := LeavesClock s) {}))
  | readChannel p bytes => exact .leaves (request_leavesClock ht (leaves_readChannel (P := LeavesClock s) {}))
  | readReference p bytes => exact .leaves (fixedRequest_leavesClock (show execReadReference p bytes s = .next t from ht) {})
  | resetOwnPort p bytes =>
    exact .leaves (fixedRequest_leavesClock (show execResetOwnPort p bytes s = .next t from ht) (portReset_leavesClock s p))
  | resetPort p bytes => exact .leaves (request_leavesClock ht (resetPort_leavesClock s))
  | writeLane p bytes => exact .leaves (request_leavesClock ht (writeLane_leavesClock s))
  | fillLanes p bytes => exact .leaves (request_leavesClock ht (fillLanes_leavesClock s))
  | fillVisit => exact .leaves (fillVisit_leavesClock ht)
  | stopFill p bytes => exact .leaves (fixedRequest_leavesClock ht (stopFill_leavesClock s))
  | writeWindow p bytes => exact .leaves (request_leavesClock ht (writeWindow_leavesClock s))
  | writeProfile p bytes => exact .leaves (request_leavesClock ht (writeProfile_leavesClock s))
  | writeFloor p bytes => exact .leaves (request_leavesClock ht (writeFloor_leavesClock s))
  | writeLimit p bytes => exact .leaves (request_leavesClock ht (writeLimit_leavesClock s))
  | freeze p bytes => exact .leaves (request_leavesClock ht (freeze_leavesClock s))
  | thaw p bytes => exact .leaves (request_leavesClock ht (thaw_leavesClock s))
  | hold p bytes => exact .leaves (fixedRequest_leavesClock (show execHold p bytes s = .next t from ht) {})
  | release p bytes => exact .leaves (fixedRequest_leavesClock ht (release_leavesClock s))
  | checkChannels p bytes => exact .leaves (request_leavesClock ht (checkChannels_leavesClock s))
  | stopCheck p bytes => exact .leaves (fixedRequest_leavesClock ht (stopCheck_leavesClock s))
  | writeService p bytes => exact .leaves (request_leavesClock ht (writeService_leavesClock s))
  | clearReflost p bytes => exact clearReflost_clockCase ht
  | clearRefEvents p bytes => exact clearRefEvents_clockCase ht
  | refinRisingEdge =>
    obtain ⟨u, hu, hf⟩ := andThen_eq_next.mp ht
    cases hf
    exact .refinRises u hu rfl
  | referenceLocked => cases ht; exact .locks rfl
  | absenceExpiry =>
    change execAbsenceExpiry s = _ at ht
    unfold execAbsenceExpiry at ht
    split at ht
    · obtain ⟨u, hu, hf⟩ := andThen_eq_next.mp ht
      cases hf
      exact .absenceComes u ‹_› hu rfl
    · cases ht; exact .leaves {}
  | lineTimeAdvance => cases ht; exact .advances rfl
  | lineTimeRcAdvance =>
    change execLineTimeRcAdvance s = _ at ht
    unfold execLineTimeRcAdvance at ht
    split at ht
    · obtain ⟨u, hu, hf⟩ := andThen_eq_next.mp ht
      cases hf
      exact .unitEnds u ‹_› hu rfl
    · cases ht; exact .leaves {}
  | laneInputTransition k fine =>
    change execLaneInputTransition k fine s = _ at ht
    unfold execLaneInputTransition at ht
    split at ht
    · cases ht; exact .leaves {}
    · exact passes_of_andThen ht fun u => inputChanges_leavesClock u k
  | qualifiedEdge c fine =>
    obtain ⟨u, hu, hf⟩ := andThen_eq_next.mp ht
    exact .passes fine u hu (edgeComes_leavesClock u hf)
  | starvationExpiry c =>
    change execStarvationExpiry c s = _ at ht
    unfold execStarvationExpiry at ht
    split at ht
    · split at ht
      · exact passes_of_andThen ht fun u => timerExpires_leavesClock u c
      · cases ht; exact .leaves {}
    · cases ht; exact .leaves {}
  | reductionComplete => exact .leaves (reductionComplete_leavesClock ht)
  | calEdge e0 e1 e2 e3 =>
    change execCalEdge e0 e1 e2 e3 s = _ at ht
    unfold execCalEdge at ht
    split at ht
    · exact passes_of_andThen ht fun u => calEdgeComes_leavesClock u e0 e1 e2 e3
    · cases ht; exact .leaves {}
  | deviceReset => cases ht; exact .leaves {}
  | deviceResetRelease => cases ht; exact .leaves {}
  | powerOnReset => cases ht; exact .powerOn rfl rfl
  | powerOnSettleExpiry => cases ht; exact .leaves {}

end

/-! ### The queue, the free values and the counter (entries 24 and 31) -/

/-- From `s` to `t` the queue of commands has stayed and no coarse clock edge has come; without a CAL edge no free value is drawn. -/
structure KeepsQueue (s t : State) : Prop where
  pending : t.pending = s.pending
  counter : t.ref.counter = s.ref.counter
  draws : s.calEdgeDue = false → t.draws = s.draws

theorem LeavesQueue.keepsQueue {s t : State} (h : LeavesQueue s t) : KeepsQueue s t := ⟨h.pending, h.counter, fun _ => h.draws⟩

/-- A CAL edge that the clock takes draws a free value and leaves the queue and the monitor. -/
theorem take_calEdge {s t : State} (h : TimedEvent.calEdge.take s = .next t) : t.pending = s.pending ∧ t.ref = s.ref := by
  cases h
  have keeps := calEdgeComes_leavesClock s (Config.readingError s.draws 0) (Config.readingError s.draws 1)
    (Config.readingError s.draws 2) (Config.readingError s.draws 3)
  exact ⟨keeps.pending, keeps.ref⟩

theorem calEdgeDue_of_mem_due {s : State} {place : Nat} (h : (place, TimedEvent.calEdge) ∈ s.due) : s.calEdgeDue = true := by
  rcases mem_due.mp h with lock | ⟨c, edge⟩ | ⟨c, expiry⟩ | cal | unit | absence
  · cases (mem_dueLock.mp lock).1
  · obtain ⟨_, _, _, wrong, -⟩ := mem_dueEdges.mp edge
    cases wrong
  · cases (mem_dueStarvation.mp expiry).1
  · obtain ⟨-, -, now⟩ := mem_dueCalEdge.mp cal
    exact calEdgeDue_iff.mpr now
  · cases (mem_dueUnit.mp unit).1
  · cases (mem_dueAbsence.mp absence).1

/-- The events on the way to a place leave the queue and the counter, and without a CAL edge the free values. -/
theorem runAll_keepsQueue {l : List DueEvent} {s t : State} (ht : runAll l s = .next t) :
    t.pending = s.pending ∧ t.ref.counter = s.ref.counter ∧ ((∀ e ∈ l, e.2 ≠ .calEdge) → t.draws = s.draws) := by
  induction l generalizing s with
  | nil => cases ht; exact ⟨rfl, rfl, fun _ => rfl⟩
  | cons e r ih =>
    obtain ⟨u, hu, hr⟩ := runAll_cons ht
    obtain ⟨pending, counter, draws⟩ := ih hr
    by_cases cal : e.2 = .calEdge
    · obtain ⟨keepsPending, keepsRef⟩ := take_calEdge (cal ▸ hu)
      exact ⟨pending.trans keepsPending, counter.trans (by rw [keepsRef]; rfl),
        fun none => absurd cal (none e List.mem_cons_self)⟩
    · have keeps := take_leavesQueue _ hu cal
      exact ⟨pending.trans keeps.pending, counter.trans keeps.counter,
        fun none => (draws fun d hd => none d (List.mem_cons_of_mem e hd)).trans keeps.draws⟩

theorem passTo_keepsQueue {s u : State} {place : Fine} (h : s.passTo place = .next u) : KeepsQueue s u := by
  obtain ⟨v, hv, rfl⟩ := State.passTo_next h
  obtain ⟨pending, counter, draws⟩ := runAll_keepsQueue hv
  refine ⟨pending, counter, fun none => draws fun e he cal => ?_⟩
  have due : (e.1, TimedEvent.calEdge) ∈ s.due := by
    rw [← cal]
    exact List.mem_of_mem_filter he
  exact absurd (calEdgeDue_of_mem_due due) (Bool.eq_false_iff.mp none)

theorem KeepsQueue.andLeaves {s u t : State} (h : KeepsQueue s u) (h' : LeavesQueue u t) : KeepsQueue s t :=
  ⟨h'.pending.trans h.pending, h'.counter.trans h.counter, fun none => h'.draws.trans (h.draws none)⟩

/-- Settles O3: by what a command can do to the clock; a power-on reset alone sets the counter. -/
theorem commandsLeaveQueueAndClock : Obligations.CommandsLeaveQueueAndClock := by
  intro i s t ht
  have cases : KeepsQueue s t ∨ (i = .powerOnReset ∧ t = s.poweredOn) := by
    cases exec_clockCase ht with
    | leaves h => exact .inl h.leavesQueue.keepsQueue
    | passes place u hu h => exact .inl ((passTo_keepsQueue hu).andLeaves h.leavesQueue)
    | refinRises u hu h => exact .inl ((passTo_keepsQueue hu).andLeaves (h ▸ refinRises_leavesQueue u))
    | absenceComes u _ hu h => exact .inl ((passTo_keepsQueue hu).andLeaves (h ▸ absenceComes_leavesQueue u))
    | unitEnds u _ hu h => exact .inl ((passTo_keepsQueue hu).andLeaves (h ▸ lineTimeRcAdvances_leavesQueue u))
    | locks h => exact .inl (h ▸ referenceLocks_leavesQueue s).keepsQueue
    | advances h => exact .inl (h ▸ lineTimeAdvances_leavesQueue s).keepsQueue
    | clearsReflost _ leaves => exact .inl (LeavesQueue.trans {} leaves.leavesQueue).keepsQueue
    | clearsEvents leaves => exact .inl (LeavesQueue.trans {} leaves.leavesQueue).keepsQueue
    | powerOn h h' => exact .inr ⟨h, h'⟩
  obtain ⟨pending, counter, draws⟩ | ⟨powerOn, rfl⟩ := cases
  · refine ⟨pending, fun none => draws ?_, fun _ => counter⟩
    refine Bool.eq_false_iff.mpr fun due => ?_
    obtain ⟨running, -, now⟩ := calEdgeDue_iff.mp due
    exact none.elim (fun stopped => by rw [running] at stopped; cases stopped) fun later => later now
  · exact ⟨rfl, fun _ => rfl, fun other => absurd powerOn other⟩

end Sys2Proof.ClockProofs
end

section
namespace Sys2Proof.ReferenceProofs

open Sys2Proof Sys2Proof.Machine Sys2Proof.LaneProofs Sys2Proof.ClockProofs

/-! ### The monitor alone: what the agreement asks of it, and what an event does to it -/

/-- The agreement of O8, clause by clause, as it speaks of the monitor. -/
structure RefSound (r : RefMonitor) : Prop where
  reflost : r.state ≠ .locked → r.reflost = true
  source : r.source = .coarse ↔ r.state = .locked
  qualified : r.qualified ≤ 200000
  accumulator : r.accumulator < 250000000
  absenceEnd : r.absenceEnd < 6684672 + 65536
  absence : r.fine.toNat ≤ r.absenceEnd
  rcEnd : r.rcEnd < 16320000000 + 65536
  unit : r.state ≠ .locked → r.fine.toNat ≤ r.rcEnd

theorem referenceAgrees_iff (s : State) : s.referenceAgrees ↔ RefSound s.ref :=
  ⟨fun ⟨a, b, c, d, e, f, g, h⟩ => ⟨a, b, c, d, e, f, g, h⟩, fun ⟨a, b, c, d, e, f, g, h⟩ => ⟨a, b, c, d, e, f, g, h⟩⟩

/-- The monitor once the period has run to a place. -/
def reached (r : RefMonitor) (place : Fine) : RefMonitor := { r with fine := if r.fine ≤ place then place else r.fine }

/-- The absence detector has expired at `place` and started again. -/
def restarted (r : RefMonitor) (place : Fine) : RefMonitor := (reached r place).startDetector place

/-- What an event makes of the monitor. -/
inductive MonitorCase (e : TimedEvent) (r : RefMonitor) : RefMonitor → Prop where
  | stays : (e = .absence → r.mayExpire = false) → (e = .rcLineTime → r.mayAdvance = false) → MonitorCase e r r
  | locks : e = .lock → r.state = .acquiring → MonitorCase e r r.lock
  | unitEnds : e = .rcLineTime → r.mayAdvance = true →
      MonitorCase e r { (reached r r.unitPlace).startUnit r.unitPlace with lineTime := r.lineTime + 1 }
  | expires : e = .absence → r.mayExpire = true → r.state = .absent → MonitorCase e r (restarted r r.expiryPlace)
  | returns : e = .absence → r.mayExpire = true → r.state = .acquiring →
      MonitorCase e r { restarted r r.expiryPlace with state := .absent, multiplier := .held }
  | loses (loss : RefEvent) : e = .absence → r.mayExpire = true → r.state = .locked →
      MonitorCase e r ((restarted r r.expiryPlace).lose.writeEvent loss)
  | advances : e = .lineTime → 250000000 ≤ r.accumulator →
      MonitorCase e r { r with accumulator := r.accumulator - 250000000, lineTime := r.lineTime + 1 }

theorem absenceComes_monitor (s : State) : MonitorCase .absence s.ref s.absenceComes.ref := by
  by_cases may : s.ref.mayExpire = true
  · rw [absenceComes_of_mayExpire may, State.absenceExpires]
    split
    · exact .expires rfl may ‹_›
    · exact .returns rfl may ‹_›
    · obtain ⟨_, _, _, _, _, _, _, _, _, _, frame⟩ := loseReference_frame
        { s.reach s.ref.expiryPlace with ref := (s.reach s.ref.expiryPlace).ref.startDetector s.ref.expiryPlace }
      rw [frame]
      exact .loses _ rfl may ‹_›
  · have cannot := Bool.eq_false_iff.mpr may
    rw [absenceComes_of_not_mayExpire cannot]
    exact .stays (fun _ => cannot) nofun

theorem lineTimeRcAdvances_monitor (s : State) : MonitorCase .rcLineTime s.ref s.lineTimeRcAdvances.ref := by
  unfold State.lineTimeRcAdvances
  split
  · exact .unitEnds rfl ‹_›
  · exact .stays nofun fun _ => Bool.eq_false_iff.mpr ‹_›

theorem referenceLocks_monitor (s : State) : MonitorCase .lock s.ref s.referenceLocks.ref := by
  unfold State.referenceLocks
  split
  · rename_i due
    rw [State.arbitrate_ref]
    exact .locks rfl due.1
  · exact .stays nofun nofun

theorem lineTimeAdvances_monitor (s : State) : MonitorCase .lineTime s.ref s.lineTimeAdvances.ref := by
  unfold State.lineTimeAdvances
  split
  · rename_i due
    exact .advances rfl due.2
  · exact .stays nofun nofun

theorem take_monitor {e : TimedEvent} {s t : State} (h : e.take s = .next t) : MonitorCase e s.ref t.ref := by
  cases e with
  | lock => cases h; exact referenceLocks_monitor s
  | edge c fine =>
    rw [(edgeComes_leavesClock s h).ref]
    exact .stays nofun nofun
  | starvation c =>
    cases h
    rw [(timerExpires_leavesClock s c).ref]
    exact .stays nofun nofun
  | calEdge =>
    rw [(take_calEdge h).2]
    exact .stays nofun nofun
  | rcLineTime => cases h; exact lineTimeRcAdvances_monitor s
  | absence => cases h; exact absenceComes_monitor s
  | lineTime => cases h; exact lineTimeAdvances_monitor s

/-! ### Each change keeps the agreement -/

section

variable {r : RefMonitor} (h : RefSound r)

include h

theorem RefSound.writeEvent (e : RefEvent) : RefSound (r.writeEvent e) :=
  ⟨h.reflost, h.source, h.qualified, h.accumulator, h.absenceEnd, h.absence, h.rcEnd, h.unit⟩

theorem RefSound.reached {place : Fine} (absence : place.toNat ≤ r.absenceEnd) (unit : r.state ≠ .locked → place.toNat ≤ r.rcEnd) :
    RefSound (reached r place) := by
  refine ⟨h.reflost, h.source, h.qualified, h.accumulator, h.absenceEnd, ?_, h.rcEnd, fun away => ?_⟩
  · change (if r.fine ≤ place then place else r.fine).toNat ≤ r.absenceEnd
    split
    · exact absence
    · exact h.absence
  · change (if r.fine ≤ place then place else r.fine).toNat ≤ r.rcEnd
    split
    · exact unit away
    · exact h.unit away

theorem RefSound.startDetector (place : Fine) : RefSound (r.startDetector place) := by
  have within := place.isLt
  have present := r.fine.isLt
  refine ⟨h.reflost, h.source, h.qualified, h.accumulator, ?_, ?_, h.rcEnd, h.unit⟩
  · rw [RefMonitor.startDetector_absenceEnd, Config.absenceLatest]
    omega
  · change r.fine.toNat ≤ Config.absenceLatest + place.toNat
    rw [Config.absenceLatest]
    omega

theorem RefSound.lock : RefSound r.lock :=
  ⟨fun away => absurd rfl away, ⟨fun _ => rfl, fun _ => rfl⟩, h.qualified, Nat.succ_pos _, h.absenceEnd, h.absence,
    Nat.lt_add_of_pos_right (Nat.succ_pos _), fun away => absurd rfl away⟩

theorem RefSound.lose : RefSound r.lose := by
  have present := r.fine.isLt
  refine ⟨fun _ => rfl, ⟨nofun, nofun⟩, h.qualified, Nat.succ_pos _, h.absenceEnd, h.absence, ?_, fun _ => ?_⟩
  · change Config.rcUnitLatest + r.fine.toNat < _
    rw [Config.rcUnitLatest]
    omega
  · exact Nat.le_add_left _ _

/-- Outside LOCKED a return to ABSENT changes nothing that the agreement sees. -/
theorem RefSound.toAbsent (away : r.state ≠ .locked) (m : Multiplier) : RefSound { r with state := .absent, multiplier := m } :=
  ⟨fun _ => h.reflost away, ⟨fun coarse => absurd (h.source.mp coarse) away, nofun⟩, h.qualified, h.accumulator, h.absenceEnd, h.absence,
    h.rcEnd, fun _ => h.unit away⟩

theorem RefSound.startUnit (place : Fine) (lineTime : LineTime) : RefSound { r.startUnit place with lineTime := lineTime } := by
  have within := place.isLt
  have present := r.fine.isLt
  refine ⟨h.reflost, h.source, h.qualified, h.accumulator, h.absenceEnd, h.absence, ?_, fun _ => ?_⟩
  · change Config.rcUnitLatest + place.toNat < _
    rw [Config.rcUnitLatest]
    omega
  · change r.fine.toNat ≤ Config.rcUnitLatest + place.toNat
    rw [Config.rcUnitLatest]
    omega

/-- Between its earliest end and its latest, a timer of the RC oscillator ends at the present instant. -/
theorem expiryPlace_of_present (may : r.mayExpire = true) (early : r.absenceEnd ≤ r.fine.toNat + 262144) :
    reached r r.expiryPlace = r := by
  have place : r.expiryPlace = r.fine := by
    refine BitVec.eq_of_toNat_eq ((rcEndPlace_toNat (mayExpire_iff.mp may)).trans ?_)
    have absence := h.absence
    change min (max _ (_ - 262144)) _ = _
    omega
  rw [place, ReferenceProofs.reached, ite_self]

theorem unitPlace_of_present (may : r.mayAdvance = true) (early : r.rcEnd ≤ r.fine.toNat + 640000000) :
    reached r r.unitPlace = r := by
  obtain ⟨away, within⟩ := mayAdvance_iff.mp may
  have place : r.unitPlace = r.fine := by
    refine BitVec.eq_of_toNat_eq ((rcEndPlace_toNat within).trans ?_)
    have unit := h.unit away
    change min (max _ (_ - 640000000)) _ = _
    omega
  rw [place, ReferenceProofs.reached, ite_self]

/-- An event keeps the agreement, an expiry and an RC advance where the period has run to their places. -/
theorem MonitorCase.sound {e : TimedEvent} {r' : RefMonitor} (effect : MonitorCase e r r')
    (absence : e = .absence → r.mayExpire = true → r.absenceEnd ≤ r.fine.toNat + 262144)
    (unit : e = .rcLineTime → r.mayAdvance = true → r.rcEnd ≤ r.fine.toNat + 640000000) : RefSound r' := by
  cases effect with
  | stays => exact h
  | locks => exact h.lock
  | unitEnds he may =>
    rw [unitPlace_of_present h may (unit he may)]
    exact h.startUnit _ _
  | expires he may =>
    rw [restarted, expiryPlace_of_present h may (absence he may)]
    exact h.startDetector _
  | returns he may acquiring =>
    rw [restarted, expiryPlace_of_present h may (absence he may)]
    exact (h.startDetector _).toAbsent (by rw [RefMonitor.startDetector_state, acquiring]; decide) _
  | loses loss he may =>
    rw [restarted, expiryPlace_of_present h may (absence he may)]
    exact (h.startDetector _).lose.writeEvent loss
  | advances _ full => exact absurd h.accumulator (Nat.not_lt.mpr full)

theorem RefSound.refinRises {s : State} (hs : s.ref = r) : RefSound s.refinRises.ref := by
  subst hs
  have started := h.startDetector s.ref.fine
  unfold State.refinRises
  dsimp only
  split
  · rename_i absent
    have away : s.ref.state ≠ .locked := by rw [absent]; decide
    exact ⟨fun _ => h.reflost away, ⟨fun coarse => absurd (h.source.mp coarse) away, nofun⟩, Nat.succ_le_succ (Nat.zero_le _),
      started.accumulator, started.absenceEnd, started.absence, started.rcEnd, fun _ => started.unit away⟩
  · exact ⟨started.reflost, started.source, Nat.min_le_left _ _, started.accumulator, started.absenceEnd, started.absence,
      started.rcEnd, started.unit⟩
  · exact started

end

/-! ### The timers' ends are foreseen: what the clock has listed comes before they are passed -/

/-- The events `l`, those that are due before `last`, hold the latest ends of the two timers of the RC oscillator as the monitor has them. -/
structure Foreseen (l : List DueEvent) (last : Nat) (r : RefMonitor) : Prop where
  absence : r.mayExpire = true → r.absenceEnd < last → (r.absenceEnd, .absence) ∈ l
  absencePlace : r.mayExpire = true → ∀ place, (place, .absence) ∈ l → place = r.absenceEnd
  unit : r.mayAdvance = true → r.rcEnd < last → (r.rcEnd, .rcLineTime) ∈ l
  unitPlace : r.mayAdvance = true → ∀ place, (place, .rcLineTime) ∈ l → place = r.rcEnd

theorem place_of_absence {s : State} {place : Nat} (h : (place, TimedEvent.absence) ∈ s.due) : place = s.ref.absenceEnd := by
  rcases mem_due.mp h with lock | ⟨c, edge⟩ | ⟨c, expiry⟩ | cal | unit | absence
  · cases (mem_dueLock.mp lock).1
  · obtain ⟨_, _, _, wrong, -⟩ := mem_dueEdges.mp edge
    cases wrong
  · cases (mem_dueStarvation.mp expiry).1
  · cases (mem_dueCalEdge.mp cal).1
  · cases (mem_dueUnit.mp unit).1
  · exact (mem_dueAbsence.mp absence).2.1

theorem place_of_unit {s : State} {place : Nat} (h : (place, TimedEvent.rcLineTime) ∈ s.due) : place = s.ref.rcEnd := by
  rcases mem_due.mp h with lock | ⟨c, edge⟩ | ⟨c, expiry⟩ | cal | unit | absence
  · cases (mem_dueLock.mp lock).1
  · obtain ⟨_, _, _, wrong, -⟩ := mem_dueEdges.mp edge
    cases wrong
  · cases (mem_dueStarvation.mp expiry).1
  · cases (mem_dueCalEdge.mp cal).1
  · exact (mem_dueUnit.mp unit).2.2.1
  · cases (mem_dueAbsence.mp absence).1

theorem due_foreseen (s : State) {last : Nat} (within : last ≤ 65536) : Foreseen (s.due.filter fun e => e.1 < last) last s.ref where
  absence _ before := List.mem_filter.mpr
    ⟨mem_due.mpr (.inr (.inr (.inr (.inr (.inr (mem_dueAbsence.mpr ⟨rfl, rfl, by omega⟩)))))), decide_eq_true before⟩
  absencePlace _ _ due := place_of_absence (List.mem_of_mem_filter due)
  unit may before := List.mem_filter.mpr
    ⟨mem_due.mpr (.inr (.inr (.inr (.inr (.inl (mem_dueUnit.mpr ⟨rfl, (mayAdvance_iff.mp may).1, rfl, by omega⟩)))))),
      decide_eq_true before⟩
  unitPlace _ _ due := place_of_unit (List.mem_of_mem_filter due)

/-- A detector just started cannot expire in the period. -/
theorem mayExpire_restarted (r : RefMonitor) (place : Fine) : (restarted r place).mayExpire = false :=
  RefMonitor.mayExpire_startDetector _ _

theorem mayExpire_of_same {r r' : RefMonitor} (same : r'.absenceEnd = r.absenceEnd) (may : r'.mayExpire = true) : r.mayExpire = true := by
  rw [mayExpire_iff] at may ⊢
  rwa [← same]

section

variable {e : TimedEvent} {r r' : RefMonitor} (effect : MonitorCase e r r')

include effect

/-- A detector that can expire after an event is the one that could before it. -/
theorem MonitorCase.absenceEnd (may : r'.mayExpire = true) : r'.absenceEnd = r.absenceEnd ∧ e ≠ .absence := by
  cases effect with
  | stays absence => exact ⟨rfl, fun he => by rw [absence he] at may; cases may⟩
  | locks he => exact ⟨rfl, by rw [he]; exact nofun⟩
  | unitEnds he => exact ⟨rfl, by rw [he]; exact nofun⟩
  | expires => exact absurd may (Bool.eq_false_iff.mp (mayExpire_restarted r _))
  | returns => exact absurd may (Bool.eq_false_iff.mp (mayExpire_restarted r _))
  | loses => exact absurd may (Bool.eq_false_iff.mp (mayExpire_restarted r _))
  | advances he => exact ⟨rfl, by rw [he]; exact nofun⟩

/-- A unit that can end after an event is the one that could before it. -/
theorem MonitorCase.rcEnd (may : r'.mayAdvance = true) : r'.rcEnd = r.rcEnd ∧ r.state ≠ .locked ∧ e ≠ .rcLineTime := by
  obtain ⟨away, within⟩ := mayAdvance_iff.mp may
  cases effect with
  | stays _ unit => exact ⟨rfl, away, fun he => by rw [unit he] at may; cases may⟩
  | locks => exact absurd rfl away
  | unitEnds => exact absurd may (Bool.eq_false_iff.mp (RefMonitor.mayAdvance_startUnit _ _))
  | expires he => exact ⟨rfl, away, by rw [he]; exact nofun⟩
  | returns he _ acquiring => exact ⟨rfl, by rw [acquiring]; decide, by rw [he]; exact nofun⟩
  | loses => exact absurd may (Bool.eq_false_iff.mp (RefMonitor.mayAdvance_startUnit _ _))
  | advances he => exact ⟨rfl, away, by rw [he]; exact nofun⟩

end

/-- The first event taken, the others are still those that the monitor foresees. -/
theorem Foreseen.tail {e : DueEvent} {l : List DueEvent} {last : Nat} {r r' : RefMonitor} (h : Foreseen (e :: l) last r)
    (effect : MonitorCase e.2 r r') : Foreseen l last r' where
  absence may before := by
    obtain ⟨same, other⟩ := effect.absenceEnd may
    rw [same] at before ⊢
    refine (List.mem_cons.mp (h.absence (mayExpire_of_same same may) before)).resolve_left fun he => other ?_
    rw [← he]
  absencePlace may place mem := by
    obtain ⟨same, -⟩ := effect.absenceEnd may
    rw [same]
    exact h.absencePlace (mayExpire_of_same same may) place (List.mem_cons_of_mem e mem)
  unit may before := by
    obtain ⟨same, away, other⟩ := effect.rcEnd may
    rw [same] at before ⊢
    refine (List.mem_cons.mp (h.unit (mayAdvance_iff.mpr ⟨away, same ▸ (mayAdvance_iff.mp may).2⟩) before)).resolve_left
      fun he => other ?_
    rw [← he]
  unitPlace may place mem := by
    obtain ⟨same, away, -⟩ := effect.rcEnd may
    rw [same]
    exact h.unitPlace (mayAdvance_iff.mpr ⟨away, same ▸ (mayAdvance_iff.mp may).2⟩) place (List.mem_cons_of_mem e mem)

/-- The events of a period, taken in their order up to `last`, keep the agreement and pass neither timer's end. -/
theorem runAll_sound {l : List DueEvent} {last : Nat} {s t : State} (ht : runAll l s = .next t)
    (sorted : l.Pairwise fun x y => x.1 ≤ y.1) (before : ∀ e ∈ l, e.1 < last) (within : last ≤ 65536) (h : RefSound s.ref)
    (foreseen : Foreseen l last s.ref) : RefSound t.ref ∧ Foreseen [] last t.ref := by
  induction l generalizing s with
  | nil => cases ht; exact ⟨h, foreseen⟩
  | cons e l ih =>
    obtain ⟨u, hu, hr⟩ := runAll_cons ht
    obtain ⟨first, rest⟩ := List.pairwise_cons.mp sorted
    have early := before e List.mem_cons_self
    have place : (BitVec.ofNat 16 e.1 : Fine).toNat = e.1 := ofNat_toNat_of_lt (by omega)
    have least : ∀ d ∈ e :: l, e.1 ≤ d.1 := fun d hd => (List.mem_cons.mp hd).elim (fun he => by rw [he]) (first d)
    have absence : e.1 ≤ s.ref.absenceEnd := by
      by_contra passed
      exact passed (least _ (foreseen.absence (mayExpire_iff.mpr (by omega)) (by omega)))
    have unit (away : s.ref.state ≠ .locked) : e.1 ≤ s.ref.rcEnd := by
      by_contra passed
      exact passed (least _ (foreseen.unit (mayAdvance_iff.mpr ⟨away, by omega⟩) (by omega)))
    have onPlace := le_fine_reach s (BitVec.ofNat 16 e.1)
    rw [place] at onPlace
    have arrived : RefSound (s.reach (BitVec.ofNat 16 e.1)).ref :=
      h.reached (place := BitVec.ofNat 16 e.1) (by rwa [place]) (fun away => by rw [place]; exact unit away)
    have effect := take_monitor hu
    refine ih hr rest (fun d hd => before d (List.mem_cons_of_mem e hd)) (effect.sound arrived (fun he may => ?_) fun he may => ?_)
      (Foreseen.tail (e := e) (r := (s.reach (BitVec.ofNat 16 e.1)).ref)
        ⟨foreseen.absence, foreseen.absencePlace, foreseen.unit, foreseen.unitPlace⟩ effect)
    · have atEnd : e.1 = s.ref.absenceEnd := foreseen.absencePlace may e.1 (by rw [← he]; exact List.mem_cons_self)
      change s.ref.absenceEnd ≤ _
      omega
    · have atEnd : e.1 = s.ref.rcEnd := foreseen.unitPlace may e.1 (by rw [← he]; exact List.mem_cons_self)
      change s.ref.rcEnd ≤ _
      omega

end Sys2Proof.ReferenceProofs
end

section
namespace Sys2Proof.ReferenceProofs

open Sys2Proof Sys2Proof.Machine Sys2Proof.LaneProofs Sys2Proof.ClockProofs

/-! ### The passing of time to a place keeps the agreement -/

/-- A timer that can end in the period once events have been taken is the one that could before. -/
theorem runAll_timers {l : List DueEvent} {s t : State} (ht : runAll l s = .next t) :
    (t.ref.mayExpire = true → t.ref.absenceEnd = s.ref.absenceEnd) ∧
      (t.ref.mayAdvance = true → t.ref.rcEnd = s.ref.rcEnd ∧ s.ref.state ≠ .locked) := by
  induction l generalizing s with
  | nil => cases ht; exact ⟨fun _ => rfl, fun may => ⟨rfl, (mayAdvance_iff.mp may).1⟩⟩
  | cons e l ih =>
    obtain ⟨u, hu, hr⟩ := runAll_cons ht
    have effect := take_monitor hu
    obtain ⟨absence, unit⟩ := ih hr
    refine ⟨fun may => (absence may).trans (effect.absenceEnd (mayExpire_of_same (absence may) may)).1, fun may => ?_⟩
    obtain ⟨same, away⟩ := unit may
    obtain ⟨before, awayBefore, -⟩ := effect.rcEnd (mayAdvance_iff.mpr ⟨away, same ▸ (mayAdvance_iff.mp may).2⟩)
    exact ⟨same.trans before, awayBefore⟩

theorem passTo_timers {s u : State} {place : Fine} (hu : s.passTo place = .next u) :
    (u.ref.mayExpire = true → u.ref.absenceEnd = s.ref.absenceEnd) ∧ (u.ref.mayAdvance = true → u.ref.rcEnd = s.ref.rcEnd) := by
  obtain ⟨v, hv, rfl⟩ := State.passTo_next hu
  obtain ⟨absence, unit⟩ := runAll_timers hv
  exact ⟨absence, fun may => (unit may).1⟩

theorem passTo_sound {s u : State} {place : Fine} (hu : s.passTo place = .next u) (h : RefSound s.ref) : RefSound u.ref := by
  obtain ⟨v, hv, rfl⟩ := State.passTo_next hu
  have within := place.isLt
  obtain ⟨sound, nothing⟩ := runAll_sound hv ((due_sorted s).filter _) (fun e he => of_decide_eq_true (List.mem_filter.mp he).2)
    (Nat.le_of_lt within) h (due_foreseen s (Nat.le_of_lt within))
  refine sound.reached ?_ fun away => ?_
  · by_contra passed
    cases nothing.absence (mayExpire_iff.mpr (by omega)) (by omega)
  · by_contra passed
    cases nothing.unit (mayAdvance_iff.mpr ⟨away, by omega⟩) (by omega)

/-- Once the period has run to the place of an expiry, 392 ns have passed since the detector's start. -/
theorem absenceEnd_le_of_passTo {s u : State} (may : s.ref.mayExpire = true) (hu : s.passTo s.ref.expiryPlace = .next u)
    (may' : u.ref.mayExpire = true) : u.ref.absenceEnd ≤ u.ref.fine.toNat + 262144 := by
  have arrived := le_fine_of_passTo hu
  have place : s.ref.expiryPlace.toNat = min (max s.ref.fine.toNat (s.ref.absenceEnd - 262144)) s.ref.absenceEnd :=
    rcEndPlace_toNat (mayExpire_iff.mp may)
  rw [(passTo_timers hu).1 may']
  omega

/-- Once the period has run to the place of an RC advance, 0.98 / 1024 s have passed since the unit began. -/
theorem rcEnd_le_of_passTo {s u : State} (may : s.ref.mayAdvance = true) (hu : s.passTo s.ref.unitPlace = .next u)
    (may' : u.ref.mayAdvance = true) : u.ref.rcEnd ≤ u.ref.fine.toNat + 640000000 := by
  have arrived := le_fine_of_passTo hu
  have place : s.ref.unitPlace.toNat = min (max s.ref.fine.toNat (s.ref.rcEnd - 640000000)) s.ref.rcEnd :=
    rcEndPlace_toNat (mayAdvance_iff.mp may).2
  rw [(passTo_timers hu).2 may']
  omega

/-! ### Every command and every idle step -/

theorem poweredOn_sound (s : State) : RefSound s.poweredOn.ref :=
  ⟨fun _ => rfl, ⟨nofun, nofun⟩, Nat.zero_le _, Nat.succ_pos _, Nat.lt_add_of_pos_right (Nat.succ_pos _), Nat.zero_le _,
    Nat.lt_add_of_pos_right (Nat.succ_pos _), fun _ => Nat.zero_le _⟩

theorem exec_sound {i : Instr} {s t : State} (ht : exec i s = .next t) (h : RefSound s.ref) : RefSound t.ref := by
  cases exec_clockCase ht with
  | leaves leaves => rwa [leaves.ref]
  | passes place u hu leaves =>
    rw [leaves.ref]
    exact passTo_sound hu h
  | refinRises u hu ht =>
    rw [ht]
    exact (passTo_sound hu h).refinRises rfl
  | absenceComes u may hu ht =>
    rw [ht]
    exact (absenceComes_monitor u).sound (passTo_sound hu h) (fun _ => absenceEnd_le_of_passTo may hu) nofun
  | unitEnds u may hu ht =>
    rw [ht]
    exact (lineTimeRcAdvances_monitor u).sound (passTo_sound hu h) nofun fun _ => rcEnd_le_of_passTo may hu
  | locks ht =>
    rw [ht]
    exact (referenceLocks_monitor s).sound h nofun nofun
  | advances ht =>
    rw [ht]
    exact (lineTimeAdvances_monitor s).sound h nofun nofun
  | clearsReflost locked leaves =>
    rw [leaves.ref]
    exact ⟨fun away => absurd locked away, h.source, h.qualified, h.accumulator, h.absenceEnd, h.absence, h.rcEnd, h.unit⟩
  | clearsEvents leaves =>
    rw [leaves.ref]
    exact ⟨h.reflost, h.source, h.qualified, h.accumulator, h.absenceEnd, h.absence, h.rcEnd, h.unit⟩
  | powerOn _ ht =>
    rw [ht]
    exact poweredOn_sound s

/-- At the beginning of a period the agreement asks for less: no end of a timer can have been passed. -/
theorem RefSound.of_periodStart {r r' : RefMonitor} (h : RefSound r) (state : r'.state = r.state) (reflost : r'.reflost = r.reflost)
    (source : r'.source = r.source) (qualified : r'.qualified = r.qualified) (accumulator : r'.accumulator < 250000000)
    (start : r'.fine = 0) (absenceEnd : r'.absenceEnd ≤ r.absenceEnd) (rcEnd : r'.rcEnd ≤ r.rcEnd) : RefSound r' where
  reflost := by rw [state, reflost]; exact h.reflost
  source := by rw [state, source]; exact h.source
  qualified := by rw [qualified]; exact h.qualified
  accumulator := accumulator
  absenceEnd := Nat.lt_of_le_of_lt absenceEnd h.absenceEnd
  absence := by rw [start]; exact Nat.zero_le _
  rcEnd := Nat.lt_of_le_of_lt rcEnd h.rcEnd
  unit _ := by rw [start]; exact Nat.zero_le _

theorem refTick_absenceEnd (r : RefMonitor) : r.tick.absenceEnd ≤ r.absenceEnd := by
  rw [RefMonitor.tick]
  exact Nat.sub_le _ _

theorem refTick_rcEnd (r : RefMonitor) : r.tick.rcEnd ≤ r.rcEnd := by
  rw [RefMonitor.tick]
  dsimp only
  split
  · exact Nat.le_refl _
  · exact Nat.sub_le _ _

/-- Right after a coarse clock edge an advance of line time, or none, leaves the agreement if the accumulator holds less than a unit. -/
theorem RefSound.tick {r q : RefMonitor} (h : RefSound r) (hq : q = r.tick) {accumulator : Nat} (less : accumulator < 250000000)
    (lineTime : LineTime) : RefSound { q with accumulator := accumulator, lineTime := lineTime } :=
  h.of_periodStart (by rw [hq, refTick_state]) (by rw [hq, refTick_reflost]) (by rw [hq, RefMonitor.tick])
    (by rw [hq, RefMonitor.tick]) less (by rw [hq, RefMonitor.tick]) (by rw [hq]; exact refTick_absenceEnd r)
    (by rw [hq]; exact refTick_rcEnd r)

theorem refTick_accumulator (r : RefMonitor) :
    r.tick.accumulator = if r.state = .locked then r.accumulator + 1024 else r.accumulator := by rw [RefMonitor.tick]

/-- What a coarse clock edge leaves: the accumulator may hold a unit, which the advance of line time right after it takes (R4). -/
theorem afterTick_sound {r : RefMonitor} (h : RefSound r) (s t : State) (hs : s.ref = r.tick)
    (ht : runAll s.ref.dueAtEdge s = .next t) : RefSound t.ref := by
  have few := h.accumulator
  have gain : s.ref.accumulator = if r.state = .locked then r.accumulator + 1024 else r.accumulator := by rw [hs, refTick_accumulator]
  have state : s.ref.state = r.state := by rw [hs, refTick_state]
  rw [RefMonitor.dueAtEdge] at ht
  split at ht
  · rename_i due
    obtain ⟨u, hu, hr⟩ := runAll_cons ht
    cases hr
    cases hu
    rw [reach_of_le (Nat.zero_le _), State.lineTimeAdvances, if_pos due]
    refine h.tick hs ?_ _
    rw [gain, Config.accumulatorFull]
    split <;> omega
  · rename_i quiet
    cases ht
    rw [state, gain] at quiet
    refine h.tick hs (accumulator := s.ref.accumulator) ?_ s.ref.lineTime
    rw [gain]
    split
    · rename_i locked
      rw [if_pos locked] at quiet
      exact Nat.lt_of_not_le fun full => quiet ⟨locked, full⟩
    · exact few

theorem idle_sound {s t : State} (ht : s.idle = .next t) (h : RefSound s.ref) : RefSound t.ref := by
  obtain ⟨u, hu, hr⟩ := State.idle_next ht
  have all : (s.due.filter fun e => e.1 < 65536) = s.due :=
    List.filter_eq_self.mpr fun e he => decide_eq_true (place_lt_of_mem_due he)
  have foreseen := due_foreseen s (Nat.le_refl 65536)
  rw [all] at foreseen
  obtain ⟨sound, -⟩ := runAll_sound hu (due_sorted s) (fun e he => place_lt_of_mem_due he) (Nat.le_refl 65536) h foreseen
  exact afterTick_sound sound u.tick t (tick_ref u) hr

/-- Settles O8: the commands by what they can do to the clock, the idle step by the events of the period in their order. -/
theorem stepKeepsReference : Obligations.StepKeepsReference := by
  intro s t h ht
  rw [referenceAgrees_iff] at h ⊢
  unfold step at ht
  split at ht
  · exact exec_sound ht h
  · exact idle_sound ht h

end Sys2Proof.ReferenceProofs
end

section
namespace Sys2Proof.ReferenceProofs

open Sys2Proof Sys2Proof.Machine Sys2Proof.LaneProofs Sys2Proof.ClockProofs Sys2Proof.JobProofs Sys2Proof.ArbiterProofs

/-! ### Reads: READ STATUS and READ REFERENCE (R15, R180), and what every read leaves (R15, R29, R58, R105, R140, R170) -/

theorem answer_ports (s : State) (p : PortNo) (received : List Byte) (status : Status) (body : List Byte) :
    ∃ framing received' response, s.answer p received status body =
      { s with ports := s.ports.set p ⟨framing, received', response, s.ports[p].selected⟩ } := ⟨_, _, _, rfl⟩

theorem receive_ports (s : State) (p : PortNo) (received : List Byte) : ∃ framing received' response, s.receive p received =
    { s with ports := s.ports.set p ⟨framing, received', response, s.ports[p].selected⟩ } := ⟨_, _, _, rfl⟩

theorem self_ports (s : State) (p : PortNo) : ∃ framing received response, s =
    { s with ports := s.ports.set p ⟨framing, received, response, s.ports[p].selected⟩ } := by
  have same : s.ports.set p s.ports[p] = s.ports := Vector.set_getElem_self p.isLt
  exact ⟨s.ports[p].framing, s.ports[p].received, s.ports[p].response, (congrArg (fun v => { s with ports := v }) same).symm⟩

/-- A request whose rule answers without an effect leaves all but its port's framing. -/
theorem request_ports {s t : State} {p : PortNo} {code : Byte} {bytes : List Byte} {run : List Byte → Reply}
    (ht : request p code bytes s run = .next t) (rule : ∀ payload, Leaves (fun u => u = s) (run payload)) :
    ∃ framing received response, t = { s with ports := s.ports.set p ⟨framing, received, response, s.ports[p].selected⟩ } := by
  obtain rfl | rfl | ⟨_, _, rfl⟩ | ⟨payload, -, -, _, _, u, answers, rfl⟩ := request_next ht
  · exact self_ports _ p
  · exact receive_ports s p _
  · exact answer_ports s p _ _ _
  · have left := rule payload
    rw [answers] at left
    cases left
    exact answer_ports _ p _ _ _

/-- Settles O18: each read answers the part as it stands. -/
theorem readsChangeNothing : Obligations.ReadsChangeNothing := by
  intro s t p bytes r hr ht
  simp only [readRequests, List.mem_cons, List.not_mem_nil, or_false] at hr
  rcases hr with rfl | rfl | rfl | rfl | rfl | rfl | rfl
  · exact request_ports ht (leaves_readJob (P := fun u => u = s) rfl p)
  · exact request_ports (show execReadStatus p bytes s = .next t from ht) fun _ => rfl
  · exact request_ports ht (leaves_readSamples (P := fun u => u = s) rfl p)
  · exact request_ports ht (leaves_readLane (P := fun u => u = s) rfl)
  · exact request_ports ht (leaves_readLimits (P := fun u => u = s) rfl)
  · exact request_ports ht (leaves_readChannel (P := fun u => u = s) rfl)
  · exact request_ports (show execReadReference p bytes s = .next t from ht) fun _ => rfl

theorem holdCode_eq (x : HoldState) : x.code = (match x with | .running => 0 | .pending => 1 | .active => 2 : Byte) := by cases x <;> rfl

theorem refStateCode_eq (x : RefState) : x.code = (match x with | .absent => 0 | .acquiring => 1 | .locked => 2 : Byte) := by
  cases x <;> rfl

theorem sourceCode_eq (x : TimeSource) : x.code = (match x with | .coarse => 0 | .rc => 1 : Byte) := by cases x <;> rfl

theorem eventBytes_eq (e : Option RefEvent) : eventBytes e = match e with
    | none => [0xFF, 0, 0, 0, 0, 0, 0, 0]
    | some e => ([match e.kind with | .loss => 0 | .lock => 1] : List Byte) ++ leBytes 5 e.lineTime.toNat ++
        [BitVec.ofNat 8 e.aborted, if e.checkEnded then 1 else 0] := by
  rcases e with _ | ⟨kind, lineTime, aborted, ended⟩
  · rfl
  · cases kind <;> rfl

/-- Settles O20: the responses byte by byte, each code by its enumeration. -/
theorem readStatusAndReference : Obligations.ReadStatusAndReference := by
  intro s p
  refine ⟨takes_of_run (run := fun _ => .answer .success (statusResponse s p) s) rfl (by decide) rfl ?_,
    takes_of_run (run := fun _ => .answer .success (referenceResponse s.ref) s) rfl (by decide) rfl ?_⟩
  · rw [statusResponse, holdCode_eq, refStateCode_eq]
    rfl
  · rw [referenceResponse, refStateCode_eq, sourceCode_eq, eventBytes_eq, eventBytes_eq]
    rfl

/-! ### Resets (R16, R17, R183, R184) -/

theorem attnLevel_empty (p : PortNo) (reflost : Bool) : attnLevel p [] reflost = (decide (p = 0) && reflost) := rfl

section

variable (s : State)

theorem poweredOn_table (i : SlotNo) : s.poweredOn.table[i] = ⟨0, none⟩ := Vector.getElem_replicate i.isLt

theorem poweredOn_service (c : ChannelNo) : s.poweredOn.service[c] = .inService := Vector.getElem_replicate c.isLt

theorem poweredOn_held (p : PortNo) : s.poweredOn.held[p] = 0 := Vector.getElem_replicate p.isLt

theorem poweredOn_profiles (p : PortNo) : s.poweredOn.profiles[p] = .initial p := getElem_ofFn_fin _ p

theorem poweredOn_queues (p : PortNo) : s.poweredOn.queues[p] = .initial (p = 0) := getElem_ofFn_fin _ p

theorem poweredOn_ports (p : PortNo) : s.poweredOn.ports[p] = .initial s.ports[p].selected := getElem_ofFn_fin _ p

theorem poweredOn_pages (q : PageNo) : s.poweredOn.pages[q] = none := Vector.getElem_replicate q.isLt

theorem poweredOn_windows (p : PortNo) (w : WindowNo) : s.poweredOn.windows[p][w] = .initial := by
  have port : s.poweredOn.windows[p] = Vector.replicate 8 .initial := Vector.getElem_replicate p.isLt
  rw [port]
  exact Vector.getElem_replicate w.isLt

/-- Settles O5: both resets block by block. -/
theorem resets : Obligations.Resets := by
  refine ⟨fun s => ⟨⟨_, rfl, rfl, rfl, rfl, rfl, rfl, rfl, poweredOn_lanes s, rfl,
    fun c => ⟨poweredOn_xpoint s c, poweredOn_service s c, poweredOn_chans s c⟩, poweredOn_table s, rfl, rfl, rfl,
    fun p => ⟨poweredOn_held s p, poweredOn_profiles s p, getElem_ofFn_fin _ p, poweredOn_ports s p⟩, poweredOn_pages s,
    poweredOn_windows s, rfl, rfl, poweredOn_limits s, rfl⟩, rfl⟩,
    fun s => ⟨⟨_, _, rfl, rfl, rfl, rfl, rfl, fun p => ?_, rfl⟩, rfl⟩⟩
  rw [poweredOn_queues]
  rfl

end

/-- The state after reset is what a power-on reset makes of it. -/
theorem reset_eq_poweredOn : State.reset = State.reset.poweredOn := by
  have lanes : State.reset.poweredOn.lanes = State.reset.lanes := vector_ext_fin fun k => by
    rw [poweredOn_lanes]
    have initial : State.reset.lanes[k] = .initial false := Vector.getElem_replicate k.isLt
    rw [initial]
    rfl
  have ports : State.reset.poweredOn.ports = State.reset.ports := vector_ext_fin fun p => by
    rw [poweredOn_ports]
    have initial : State.reset.ports[p] = .initial false := Vector.getElem_replicate p.isLt
    rw [initial]
    rfl
  have same : State.reset.poweredOn = { State.reset with lanes := State.reset.poweredOn.lanes, ports := State.reset.poweredOn.ports } := rfl
  rw [same, lanes, ports]

/-- Settles O6: what a power-on reset leaves agrees in every respect. -/
theorem resetIsSound : Obligations.ResetIsSound := by
  unfold Obligations.ResetIsSound
  rw [reset_eq_poweredOn]
  refine ⟨State.reset_mem_wf, (referenceAgrees_iff _).mpr (poweredOn_sound _), QueueProofs.queuesAgree_of_initial fun p => ?_,
    linksAgree_of_initial (poweredOn_unconnected _) (poweredOn_xpoint _) (poweredOn_chans _) rfl rfl, poweredOn_countsAgree _,
    poweredOn_jobsAgree _, poweredOn_inBounds _⟩
  rw [poweredOn_queues, attnLevel_empty]
  exact congrArg PortQueue.initial (Bool.and_true _).symm

/-! ### CLEAR REFLOST and CLEAR REF EVENTS (R12, R14) -/

theorem refreshAttn_of_clear (s : State) (clear : s.ref.reflost = false) :
    s.refreshAttn 0 = { s with queues := s.queues.set 0 { s.queues[0] with attn := decide (s.queues[0].queue ≠ []) } } := by
  have level : attnLevel 0 s.queues[0].queue false = decide (s.queues[0].queue ≠ []) := by
    rcases s.queues[0].queue with _ | _ <;> rfl
  rw [State.refreshAttn, clear, ← level]
  rfl

/-- Settles O28, by the table of R12. -/
theorem clearReflostAndEvents : Obligations.ClearReflostAndEvents := by
  intro s
  have reflost {t : State} {status : Status} (h : clearReflost s = .answer status [] t) :
      s.takes .clearReflost 0x2E 0 [] t status [] := takes_of_run (run := fun _ => clearReflost s) rfl (by decide) rfl h
  refine ⟨fun away => reflost ?_, fun locked clear => reflost ?_, fun locked set => reflost ?_,
    takes_of_run (run := fun _ => succeed { s with ref := { s.ref with first := none, latest := none } }) rfl (by decide) rfl rfl⟩
  · rw [clearReflost, if_pos away]
    rfl
  · rw [clearReflost, if_neg (not_not.mpr locked), clear]
    rfl
  · rw [clearReflost, if_neg (not_not.mpr locked), if_pos set, refreshAttn_of_clear _ rfl]
    rfl

/-! ### REFERENCE_LOCKED (R5, R8, R13) -/

theorem writeEvent_eq (r : RefMonitor) (e : RefEvent) :
    r.writeEvent e = { r with first := if r.first = none then some e else r.first, latest := some e } := by
  rcases h : r.first with _ | e' <;> simp [RefMonitor.writeEvent, h]

theorem arbitrate_of_closed {s : State} (closed : s.ref.state ≠ .locked ∨ s.ref.reflost = true ∨ s.hold ≠ .running) :
    s.arbitrate = s := arbitrateUpTo_of_none (.inr (nextJob_of_closed closed)) 4

/-- Settles O25: the lock writes its event, and with REFLOST set the arbiter grants nothing. -/
theorem referenceLocked : Obligations.ReferenceLocked := by
  intro s
  refine ⟨fun acquiring full => ⟨⟨_, rfl, ?_⟩, fun set => ⟨s.ref.lock, ?_⟩⟩, fun other => congrArg Host.Outcome.next ?_⟩
  · rw [referenceLocks_of_due s acquiring full, State.arbitrate_ref]
    exact writeEvent_eq _ _
  · exact congrArg Host.Outcome.next ((referenceLocks_of_due s acquiring full).trans (arbitrate_of_closed (.inr (.inl set))))
  · exact referenceLocks_of_not_due s fun due => other.elim (fun h => h due.1) fun h => Nat.not_lt.mpr due.2 h

end Sys2Proof.ReferenceProofs
end

section
namespace Sys2Proof.ReferenceProofs

open Sys2Proof Sys2Proof.Machine Sys2Proof.LaneProofs Sys2Proof.ClockProofs

/-! ### The passing of time to a place runs no further (entry 2) -/

theorem reached_fine_le {r : RefMonitor} {place : Fine} {last : Nat} (present : r.fine.toNat ≤ last) (h : place.toNat ≤ last) :
    (reached r place).fine.toNat ≤ last := by
  change (if r.fine ≤ place then place else r.fine).toNat ≤ last
  split
  · exact h
  · exact present

/-- An event that is no end of an RC timer, or one at its latest end, runs no further than its place. -/
theorem MonitorCase.fine_le {e : TimedEvent} {r r' : RefMonitor} {last : Nat} (effect : MonitorCase e r r') (present : r.fine.toNat ≤ last)
    (absence : e = .absence → r.mayExpire = true → r.absenceEnd ≤ last) (unit : e = .rcLineTime → r.mayAdvance = true → r.rcEnd ≤ last) :
    r'.fine.toNat ≤ last := by
  have expires (he : e = .absence) (may : r.mayExpire = true) : (reached r r.expiryPlace).fine.toNat ≤ last :=
    reached_fine_le present (Nat.le_trans (RefMonitor.expiryPlace_inRange may).2 (absence he may))
  cases effect with
  | stays => exact present
  | locks => exact present
  | unitEnds he may => exact reached_fine_le present (Nat.le_trans (RefMonitor.unitPlace_inRange may).2 (unit he may))
  | expires he may => exact expires he may
  | returns he may => exact expires he may
  | loses _ he may => exact expires he may
  | advances => exact present

theorem runAll_fine_le {l : List DueEvent} {last : Nat} {s t : State} (ht : runAll l s = .next t) (before : ∀ e ∈ l, e.1 < last)
    (within : last ≤ 65536) (foreseen : Foreseen l last s.ref) (present : s.ref.fine.toNat ≤ last) : t.ref.fine.toNat ≤ last := by
  induction l generalizing s with
  | nil => cases ht; exact present
  | cons e l ih =>
    obtain ⟨u, hu, hr⟩ := runAll_cons ht
    have early := before e List.mem_cons_self
    have effect := take_monitor hu
    have arrived : (s.reach (BitVec.ofNat 16 e.1)).ref.fine.toNat ≤ last :=
      reached_fine_le (r := s.ref) present (by rw [ofNat_toNat_of_lt (by omega)]; omega)
    refine ih hr (fun d hd => before d (List.mem_cons_of_mem e hd)) (Foreseen.tail (e := e) (r := (s.reach (BitVec.ofNat 16 e.1)).ref)
      ⟨foreseen.absence, foreseen.absencePlace, foreseen.unit, foreseen.unitPlace⟩ effect)
      (effect.fine_le arrived (fun he may => ?_) fun he may => ?_)
    · have latest : e.1 = s.ref.absenceEnd := foreseen.absencePlace may e.1 (by rw [← he]; exact List.mem_cons_self)
      change s.ref.absenceEnd ≤ last
      omega
    · have latest : e.1 = s.ref.rcEnd := foreseen.unitPlace may e.1 (by rw [← he]; exact List.mem_cons_self)
      change s.ref.rcEnd ≤ last
      omega

theorem passTo_fine_le {s u : State} {place : Fine} (hu : s.passTo place = .next u) (present : s.ref.fine.toNat ≤ place.toNat) :
    u.ref.fine.toNat ≤ place.toNat := by
  obtain ⟨v, hv, rfl⟩ := State.passTo_next hu
  have within := Nat.le_of_lt place.isLt
  exact reached_fine_le (r := v.ref) (runAll_fine_le hv (fun e he => of_decide_eq_true (List.mem_filter.mp he).2) within
    (due_foreseen s within) present) (Nat.le_refl _)

/-- An RC timer whose end has not changed ends, once the period has run to that place, at that place. -/
theorem rcEndPlace_of_passTo {s u : State} {latest range : Nat} (within : latest - range < 65536)
    (hu : s.passTo (rcEndPlace s.ref.fine latest range) = .next u) : rcEndPlace u.ref.fine latest range = rcEndPlace s.ref.fine latest range := by
  refine rcEndPlace_of_reached within (le_fine_of_passTo hu) ?_
  by_cases early : s.ref.fine.toNat ≤ latest
  · refine .inl (passTo_fine_le hu ?_)
    rw [rcEndPlace_toNat within]
    omega
  · exact .inr (by omega)

/-- The same where the period runs on with nothing due. -/
theorem rcEndPlace_of_reach {present : Fine} {latest range : Nat} (within : latest - range < 65536) :
    rcEndPlace (if present ≤ rcEndPlace present latest range then rcEndPlace present latest range else present) latest range =
      rcEndPlace present latest range := by
  have place := rcEndPlace_toNat (present := present) within
  refine rcEndPlace_of_reached within ?_ ?_ <;> split <;> rename_i h <;> rw [BitVec.le_def] at h <;> omega

/-! ### REFIN edges and absence expiries (R6, R7, R10) -/

/-- The place of an RC timer's end as the statements write it. -/
theorem rcEndPlace_eq {present : Fine} {latest range : Nat} : rcEndPlace present latest range =
    BitVec.ofNat 16 (min (max present.toNat (latest - range)) latest) := rfl

theorem expiryPlace_eq (r : RefMonitor) :
    r.expiryPlace = BitVec.ofNat 16 (min (max r.fine.toNat (r.absenceEnd - 262144)) r.absenceEnd) := rfl

theorem unitPlace_eq (r : RefMonitor) : r.unitPlace = BitVec.ofNat 16 (min (max r.fine.toNat (r.rcEnd - 640000000)) r.rcEnd) := rfl

theorem min_max_lt {present : Fine} {latest range : Nat} (within : latest - range < 65536) :
    min (max present.toNat (latest - range)) latest < 65536 := by
  have fits := present.isLt
  omega

section

variable {s : State}

theorem refinRisingEdge_of_quiet (quiet : s.quietBefore s.ref.fine.toNat) : exec .refinRisingEdge s = .next s.refinRises :=
  afterPassTo_of_reached quiet (Nat.le_refl _) _

/-- The detector restarts at every REFIN edge. -/
theorem refinRises_mayExpire (s : State) : s.refinRises.ref.mayExpire = false := by
  unfold State.refinRises
  dsimp only
  split <;> exact RefMonitor.mayExpire_startDetector s.ref s.ref.fine

theorem refinRises_of_absent (absent : s.ref.state = .absent) :
    s.refinRises = { s with ref :=
      { s.ref.startDetector s.ref.fine with state := .acquiring, qualified := 1, multiplier := .slewing } } := by
  unfold State.refinRises
  dsimp only
  split
  · rfl
  · cases absent.symm.trans ‹_›
  · cases absent.symm.trans ‹_›

theorem refinRises_of_acquiring (acquiring : s.ref.state = .acquiring) :
    s.refinRises = { s with ref :=
      { s.ref.startDetector s.ref.fine with qualified := min Config.qualifyingEdges (s.ref.qualified + 1) } } := by
  unfold State.refinRises
  dsimp only
  split
  · cases acquiring.symm.trans ‹_›
  · rfl
  · cases acquiring.symm.trans ‹_›

theorem refinRises_of_locked (locked : s.ref.state = .locked) :
    s.refinRises = { s with ref := s.ref.startDetector s.ref.fine } := by
  unfold State.refinRises
  dsimp only
  split
  · cases locked.symm.trans ‹_›
  · cases locked.symm.trans ‹_›
  · rfl

theorem absenceExpiry_of_not_mayExpire (h : s.ref.mayExpire = false) : exec .absenceExpiry s = .next s := by
  change execAbsenceExpiry s = _
  rw [execAbsenceExpiry, h]
  rfl

theorem absenceExpiry_of_mayExpire (h : s.ref.mayExpire = true) :
    exec .absenceExpiry s = andThen (s.passTo s.ref.expiryPlace) fun u => .next u.absenceComes := if_pos h

theorem quietBefore_expiryPlace (h : s.ref.mayExpire = true)
    (quiet : s.quietBefore (min (max s.ref.fine.toNat (s.ref.absenceEnd - 262144)) s.ref.absenceEnd)) :
    s.quietBefore s.ref.expiryPlace.toNat := by
  rwa [expiryPlace_eq, ofNat_toNat_of_lt (min_max_lt (mayExpire_iff.mp h))]

theorem expiryPlace_reach (h : s.ref.mayExpire = true) : (s.reach s.ref.expiryPlace).ref.expiryPlace = s.ref.expiryPlace :=
  rcEndPlace_of_reach (mayExpire_iff.mp h)

/-- With nothing due before it, an expiry that can come in the period comes at its place. -/
theorem absenceExpiry_of_quiet (h : s.ref.mayExpire = true) (quiet : s.quietBefore s.ref.expiryPlace.toNat) :
    exec .absenceExpiry s = .next (s.reach s.ref.expiryPlace).absenceExpires := by
  rw [absenceExpiry_of_mayExpire h, State.passTo_quiet quiet, andThen_next, absenceComes_of_mayExpire (s := s.reach s.ref.expiryPlace) h]

/-- The monitor of an expiry at a place already reached, its detector started again. -/
theorem absenceExpires_reached (h : s.ref.mayExpire = true) : (s.reach s.ref.expiryPlace).absenceExpires =
    let r := (s.reach s.ref.expiryPlace).ref.startDetector s.ref.expiryPlace
    match s.ref.state with
    | .absent => { s with ref := r }
    | .acquiring => { s with ref := { r with state := .absent, multiplier := .held } }
    | .locked => ({ s with ref := r } : State).loseReference := by
  rw [State.absenceExpires, expiryPlace_reach h, reach_reach]
  rfl

/-- An expiry sent where the part's own timers have run to its place finds the same end. -/
theorem absenceExpiry_of_passTo {u : State} (h : s.ref.mayExpire = true) (hu : s.passTo s.ref.expiryPlace = .next u)
    (same : u.ref.absenceEnd = s.ref.absenceEnd) (quiet : u.quietBefore s.ref.expiryPlace.toNat) :
    exec .absenceExpiry s = exec .absenceExpiry u := by
  have place : u.ref.expiryPlace = s.ref.expiryPlace := by
    have held := rcEndPlace_of_passTo (mayExpire_iff.mp h) hu
    rw [RefMonitor.expiryPlace, same]
    exact held
  rw [absenceExpiry_of_mayExpire h, absenceExpiry_of_mayExpire (mayExpire_of_same same.symm h), place, afterPassTo_eq hu quiet]

end

/-- Settles O24: the edge at the present instant, the expiry at the place that its range leaves it. -/
theorem referenceEdgesAndExpiries : Obligations.ReferenceEdgesAndExpiries := by
  refine ⟨fun s => ⟨fun quiet => ?_, fun u hu held quiet => ?_, fun t ht => ?_⟩, fun s => ⟨fun late => ?_, fun within quiet => ?_⟩⟩
  · rw [refinRisingEdge_of_quiet quiet]
    exact ⟨fun absent => by rw [refinRises_of_absent absent]; rfl, fun acquiring => by rw [refinRises_of_acquiring acquiring]; rfl,
      fun locked => by rw [refinRises_of_locked locked]; rfl⟩
  · change andThen (s.passTo s.ref.fine) _ = andThen (u.passTo u.ref.fine) _
    rw [held]
    exact afterPassTo_eq hu quiet _
  · obtain ⟨u, -, hf⟩ := andThen_eq_next.mp ht
    cases hf
    exact absenceExpiry_of_not_mayExpire (refinRises_mayExpire u)
  · exact absenceExpiry_of_not_mayExpire (mayExpire_eq_false late)
  · have may := mayExpire_iff.mpr within
    have place := ofNat_toNat_of_lt (min_max_lt (present := s.ref.fine) within)
    rw [absenceExpiry_of_quiet may (quietBefore_expiryPlace may quiet), absenceExpires_reached may]
    refine ⟨fun acquiring => ?_, fun absent => ?_⟩
    · rw [acquiring, expiryPlace_eq, RefMonitor.startDetector, place]
      rfl
    · rw [absent, expiryPlace_eq, RefMonitor.startDetector, place]
      rfl

/-! ### Line time (R4, R5) -/

section

variable {s : State}

theorem lineTimeRcAdvance_of_not_mayAdvance (h : s.ref.mayAdvance = false) : exec .lineTimeRcAdvance s = .next s := by
  change execLineTimeRcAdvance s = _
  rw [execLineTimeRcAdvance, h]
  rfl

theorem lineTimeRcAdvance_of_mayAdvance (h : s.ref.mayAdvance = true) :
    exec .lineTimeRcAdvance s = andThen (s.passTo s.ref.unitPlace) fun u => .next u.lineTimeRcAdvances := if_pos h

theorem lineTimeAdvances_of_due (locked : s.ref.state = .locked) (full : 250000000 ≤ s.ref.accumulator) :
    s.lineTimeAdvances = { s with
      ref := { s.ref with accumulator := s.ref.accumulator - 250000000, lineTime := s.ref.lineTime + 1 } } := if_pos ⟨locked, full⟩

theorem lineTimeAdvances_of_not_due (h : ¬ (s.ref.state = .locked ∧ Config.accumulatorFull ≤ s.ref.accumulator)) :
    s.lineTimeAdvances = s := if_neg h

/-- An advance sent where the part's own timers have run to its place finds the same end. -/
theorem lineTimeRcAdvance_of_passTo {u : State} (h : s.ref.mayAdvance = true) (hu : s.passTo s.ref.unitPlace = .next u)
    (away : u.ref.state ≠ .locked) (same : u.ref.rcEnd = s.ref.rcEnd) (quiet : u.quietBefore s.ref.unitPlace.toNat) :
    exec .lineTimeRcAdvance s = exec .lineTimeRcAdvance u := by
  obtain ⟨-, within⟩ := mayAdvance_iff.mp h
  have place : u.ref.unitPlace = s.ref.unitPlace := by
    have held := rcEndPlace_of_passTo within hu
    rw [RefMonitor.unitPlace, same]
    exact held
  rw [lineTimeRcAdvance_of_mayAdvance h, lineTimeRcAdvance_of_mayAdvance (mayAdvance_iff.mpr ⟨away, same ▸ within⟩), place,
    afterPassTo_eq hu quiet]

/-- With nothing due before it, a unit that can end in the period ends at its place, where the next begins. -/
theorem lineTimeRcAdvance_of_quiet (h : s.ref.mayAdvance = true) (quiet : s.quietBefore s.ref.unitPlace.toNat) :
    exec .lineTimeRcAdvance s = .next { s with
      ref := { (s.reach s.ref.unitPlace).ref with
        lineTime := s.ref.lineTime + 1, rcEnd := 16320000000 + s.ref.unitPlace.toNat } } := by
  have place : (s.reach s.ref.unitPlace).ref.unitPlace = s.ref.unitPlace := rcEndPlace_of_reach (mayAdvance_iff.mp h).2
  rw [lineTimeRcAdvance_of_mayAdvance h, State.passTo_quiet quiet, andThen_next, State.lineTimeRcAdvances,
    if_pos (show (s.reach s.ref.unitPlace).ref.mayAdvance = true from h), place, reach_reach]
  rfl

end

/-- Settles O27: line time by the accumulator in LOCKED, by the RC divider's unit outside it. -/
theorem lineTimeAdvances : Obligations.LineTimeAdvances := by
  intro s
  refine ⟨fun locked full => ⟨?_, ?_⟩, fun _ few => ?_, fun locked => ?_, fun away => ⟨?_, fun late => ?_, fun within =>
    ⟨fun u hu away' same quiet => ?_, fun quiet => ?_⟩⟩⟩
  · exact congrArg Host.Outcome.next (lineTimeAdvances_of_due locked full)
  · rw [RefMonitor.dueAtEdge, if_pos ⟨locked, full⟩]
    rfl
  · exact congrArg Host.Outcome.next (lineTimeAdvances_of_not_due fun due => Nat.not_lt.mpr due.2 few)
  · exact lineTimeRcAdvance_of_not_mayAdvance (mayAdvance_eq_false (.inl locked))
  · exact congrArg Host.Outcome.next (lineTimeAdvances_of_not_due fun due => away due.1)
  · exact lineTimeRcAdvance_of_not_mayAdvance (mayAdvance_eq_false (.inr late))
  · have place := ofNat_toNat_of_lt (min_max_lt (present := s.ref.fine) within)
    refine lineTimeRcAdvance_of_passTo (mayAdvance_iff.mpr ⟨away, within⟩) hu away' same ?_
    rwa [unitPlace_eq, place]
  · have place := ofNat_toNat_of_lt (min_max_lt (present := s.ref.fine) within)
    rw [lineTimeRcAdvance_of_quiet (mayAdvance_iff.mpr ⟨away, within⟩) (by rwa [unitPlace_eq, place]), unitPlace_eq, place]
    rfl

end Sys2Proof.ReferenceProofs
end

section
namespace Sys2Proof.InputProofs

open Sys2Proof Sys2Proof.Machine Sys2Proof.LaneProofs Sys2Proof.ClockProofs

/-! ### A transition at a qualifier's input (R20 to R22) -/

section

variable {q : Qualifier} {start t : Timestamp} (level : Bool)

theorem width_pos (filtered : q.filter ≠ 0) : 0 < q.width :=
  Nat.mul_pos (Nat.pos_of_ne_zero fun zero => filtered (Fin.ext zero)) (by decide)

/-- With a filter the phase that begins at an instant has not lasted the width at that instant. -/
theorem settle_of_begun (filtered : 0 < q.width) : ({ q with phaseStart := some t } : Qualifier).settle level t =
    { q with phaseStart := some t } := by
  refine Qualifier.settle_of_lt rfl ?_ level
  rw [ticksBetween, BitVec.sub_self]
  exact filtered

theorem transition_of_unmeasured (filtered : q.filter ≠ 0) (unmeasured : q.phaseStart = none) :
    q.transition level t = { q with phaseStart := some t } := by
  rw [Qualifier.transition, Qualifier.settle_of_none unmeasured, settle_of_begun _ (width_pos filtered)]

theorem transition_of_short (filtered : q.filter ≠ 0) (measured : q.phaseStart = some start) (short : ticksBetween start t < q.width) :
    q.transition level t = { q with phaseStart := some t } := by
  rw [Qualifier.transition, Qualifier.settle_of_lt measured short, settle_of_begun _ (width_pos filtered)]

theorem transition_of_long (filtered : q.filter ≠ 0) (measured : q.phaseStart = some start)
    (long : q.filter.val * 4096 ≤ (t - start).toNat) : q.transition level t = { q with
      output := level
      phaseStart := some t
      emitted := if q.output ≠ level ∧ (level = true ↔ q.edge = .rise)
        then q.emitted ++ [start + BitVec.ofNat 48 (q.filter.val * 4096)] else q.emitted } := by
  rw [Qualifier.transition, settle_eq_of_le measured long]
  exact settle_of_begun (q := { q with output := level, emitted := if q.output ≠ level ∧ (level = true ↔ q.edge = .rise)
    then q.emitted ++ [start + BitVec.ofNat 48 (q.filter.val * 4096)] else q.emitted }) _ (width_pos filtered)

/-- Without a filter an output that has its input's level stays there, whatever phase is measured. -/
theorem settle_of_unfiltered (off : q.filter = 0) (same : q.output = level) :
    q.settle level t = { q with phaseStart := none } := by
  rcases measured : q.phaseStart with _ | start
  · rw [Qualifier.settle_of_none measured, ← measured]
  · rw [settle_eq_of_le measured (by rw [off]; exact Nat.zero_le _), if_neg fun change => change.1 same, ← same]

theorem transition_of_unfiltered (off : q.filter = 0) (same : q.output = level) : q.transition level t = { q with
      output := !level
      phaseStart := none
      emitted := if (!level) = true ↔ q.edge = .rise then q.emitted ++ [t] else q.emitted } := by
  have turns : level ≠ !level := (Bool.not_ne_self level).symm
  rw [Qualifier.transition, settle_of_unfiltered level off same,
    settle_eq_of_le (start := t) rfl (by rw [off]; exact Nat.zero_le _)]
  simp only [off, same, turns, true_and, ne_eq, not_false_eq_true, Fin.val_zero, Nat.zero_mul, BitVec.add_zero]

theorem endsRunt_of_unmeasured (unmeasured : q.phaseStart = none) : q.endsRunt t = false := by rw [Qualifier.endsRunt, unmeasured]

theorem endsRunt_of_long (measured : q.phaseStart = some start) (long : q.width ≤ ticksBetween start t) : q.endsRunt t = false := by
  rw [Qualifier.endsRunt, measured]
  exact decide_eq_false (Nat.not_lt.mpr long)

theorem endsRunt_of_short (measured : q.phaseStart = some start) (short : ticksBetween start t < q.width) : q.endsRunt t = true := by
  rw [Qualifier.endsRunt, measured]
  exact decide_eq_true short

theorem endsRunt_of_unfiltered (off : q.filter = 0) : q.endsRunt t = false := by
  rcases measured : q.phaseStart with _ | start
  · exact endsRunt_of_unmeasured measured
  · exact endsRunt_of_long measured (by rw [Qualifier.width, off]; exact (Nat.zero_mul _).le.trans (Nat.zero_le _))

end

section

variable {s : State} {k : LaneNo} {q : Qualifier}

theorem inputChanges_of_unconnected (h : s.lanes[k].qualifier = none) :
    s.inputChanges k = s.setLane k { s.lanes[k] with level := !s.lanes[k].level } := by
  unfold State.inputChanges
  dsimp only
  split
  · rfl
  · cases h.symm.trans ‹_›

theorem inputChanges_of_connected (h : s.lanes[k].qualifier = some q) : s.inputChanges k =
    let v := s.setLane k { s.lanes[k] with
      level := !s.lanes[k].level, qualifier := some (q.transition s.lanes[k].level s.now) }
    if q.endsRunt s.now then v.countRunt k else v := by
  unfold State.inputChanges
  dsimp only
  split
  · cases h.symm.trans ‹_›
  · cases h.symm.trans ‹_›
    rfl

/-- A transition that ends no runt moves the lane to the qualifier that the transition leaves. -/
theorem inputChanges_of_no_runt {q' : Qualifier} (h : s.lanes[k].qualifier = some q) (whole : q.endsRunt s.now = false)
    (moves : q.transition s.lanes[k].level s.now = q') :
    s.inputChanges k = s.setLane k { s.lanes[k] with level := !s.lanes[k].level, qualifier := some q' } := by
  rw [inputChanges_of_connected h, whole, moves]
  rfl

theorem countRunt_of_job {c : ChannelNo} {h : Handle} {j : Job} (connected : s.lanes[k].connected = some c)
    (serves : s.chans[c].job = some h) (hj : s.jobAt h.slot = some j) :
    s.countRunt k = s.setJob h.slot { j with runts := min 65535 (j.runts + 1) } := by
  have bound : (s.lanes[k].connected.bind fun c => s.chans[c].job) = some h := by rw [connected]; exact serves
  rw [State.countRunt, bound]
  exact modifyJob_of_some hj _

/-- One that ends a runt counts it besides, for the job of the lane's channel. -/
theorem inputChanges_of_runt {q' : Qualifier} {c : ChannelNo} {h : Handle} {j : Job} (hq : s.lanes[k].qualifier = some q)
    (runt : q.endsRunt s.now = true) (moves : q.transition s.lanes[k].level s.now = q') (connected : s.lanes[k].connected = some c)
    (serves : s.chans[c].job = some h) (hj : s.jobAt h.slot = some j) :
    s.inputChanges k = (s.setLane k { s.lanes[k] with level := !s.lanes[k].level, qualifier := some q' }).setJob h.slot
      { j with runts := min 65535 (j.runts + 1) } := by
  rw [inputChanges_of_connected hq, runt, moves]
  refine countRunt_of_job ?_ serves hj
  rw [State.setLane_lanes_get, if_pos rfl]
  exact connected

theorem laneInputTransition_of_quiet {fine : Fine} (later : s.ref.fine ≤ fine) (quiet : s.quietBefore fine.toNat) :
    exec (.laneInputTransition k fine) s = .next (({ s with ref := { s.ref with fine := fine } } : State).inputChanges k) := by
  rw [← reach_of_ge later]
  refine (if_neg (BitVec.not_lt.mpr later)).trans ?_
  rw [State.passTo_quiet quiet, andThen_next]

/-- A transition sent where the part's own timers have run to its place finds there what it would have found. -/
theorem laneInputTransition_of_passTo {u : State} {fine : Fine} (later : s.ref.fine ≤ fine) (hu : s.passTo fine = .next u)
    (reached : u.ref.fine = fine) (quiet : u.quietBefore fine.toNat) :
    exec (.laneInputTransition k fine) s = exec (.laneInputTransition k fine) u := by
  refine (if_neg (BitVec.not_lt.mpr later)).trans ((afterPassTo_eq hu quiet _).trans (if_neg ?_).symm)
  exact BitVec.not_lt.mpr (reached ▸ BitVec.le_refl _)

end

/-- Settles O33: a transition by the qualifier it meets, its filter and the phase that it ends. -/
theorem laneInputTransition : Obligations.LaneInputTransition := by
  intro s k fine
  refine ⟨fun early => if_pos early, fun later u => laneInputTransition_of_passTo later, fun later quiet => ?_⟩
  dsimp only
  rw [laneInputTransition_of_quiet later quiet]
  refine ⟨fun unconnected => ?_, fun q hq => ⟨fun off same => ?_, fun filtered => ⟨fun unmeasured => ?_, fun start measured =>
    ⟨fun long => ?_, fun c h j short connected serves hj => ?_⟩⟩⟩⟩
  · exact congrArg _ (inputChanges_of_unconnected unconnected)
  · exact congrArg _ (inputChanges_of_no_runt hq (endsRunt_of_unfiltered off) (transition_of_unfiltered _ off same))
  · exact congrArg _ (inputChanges_of_no_runt hq (endsRunt_of_unmeasured unmeasured) (transition_of_unmeasured _ filtered unmeasured))
  · exact congrArg _ (inputChanges_of_no_runt hq (endsRunt_of_long measured long) (transition_of_long _ filtered measured long))
  · exact congrArg _ (inputChanges_of_runt hq (endsRunt_of_short measured short) (transition_of_short _ filtered measured short)
      connected serves hj)

end Sys2Proof.InputProofs
end

section
namespace Sys2Proof.EdgeProofs

open Sys2Proof Sys2Proof.Machine Sys2Proof.LaneProofs Sys2Proof.ClockProofs

/-! ### A qualified edge at an ACQUIRING channel (R83 to R86) -/

theorem stamps_iff {x : Channel} {t : Timestamp} : x.stamps t = true ↔
    (∀ last, x.lastTimestamp = some last → 262144 ≤ (t - last).toNat) ∧ (x.captured = 0 ∨ x.d ≤ min 65535 (x.decimation + 1)) := by
  have dead : x.stampable t = true ↔ ∀ last, x.lastTimestamp = some last → 262144 ≤ (t - last).toNat := by
    unfold Channel.stampable
    split
    · rename_i none
      exact ⟨fun _ last h => (nomatch none.symm.trans h), fun _ => rfl⟩
    · rename_i last some
      exact ⟨fun h _ h' => (Option.some.inj (some.symm.trans h')) ▸ of_decide_eq_true h, fun h => decide_eq_true (h last some)⟩
  rw [Channel.stamps, Bool.and_eq_true, Bool.or_eq_true, decide_eq_true_iff, decide_eq_true_iff, dead]
  rfl

section

variable {s : State} {c : ChannelNo} {fine : Fine} {g : Handle} {j : Job} {k : LaneNo} {q : Qualifier} {t : Timestamp}

theorem edgeComes_of_not_acquiring (idle : s.chans[c].activity ≠ .acquiring) : s.edgeComes c fine = .next s := by
  unfold State.edgeComes
  split
  · exact absurd ‹_› idle
  · rfl

theorem offers_iff {l : Lane} (hq : l.qualifier = some q) : l.offers t = true ↔ q.emitted.head? = some t := by
  rw [Lane.offers, hq]
  exact decide_eq_true_iff

/-- An edge that the connected lane does not offer does not reach the channel. -/
theorem edgeComes_of_not_offered (acquiring : s.chans[c].activity = .acquiring) (hg : s.chans[c].job = some g)
    (hx : s.xpoint[c] = .lane k) (unoffered : (s.lanes[k].settle s.now).offers (s.ref.counter ++ fine) = false) :
    s.edgeComes c fine = .next s := by
  have lane : (s.setLane k (s.lanes[k].settle s.now)).lanes[k] = s.lanes[k].settle s.now := by rw [State.setLane_lanes_get, if_pos rfl]
  rw [State.edgeComes, acquiring, hg, hx]
  dsimp only
  rw [lane, unoffered]
  rfl

theorem deliver_settle (hq : (s.lanes[k].settle t).qualifier = some q) : (s.lanes[k].settle t).deliver =
    { s.lanes[k] with qualifier := some { q with emitted := q.emitted.tail } } := by
  rw [Lane.deliver, hq]
  rfl

/-- The part with the oldest edge of lane `k` taken from its filter. -/
def delivered (s : State) (k : LaneNo) (q : Qualifier) : State :=
  s.setLane k { s.lanes[k] with qualifier := some { q with emitted := q.emitted.tail } }

/-- Bringing the filter to the instant and taking its edge writes the lane once. -/
theorem setLane_deliver (hq : (s.lanes[k].settle t).qualifier = some q) :
    (s.setLane k (s.lanes[k].settle t)).setLane k (s.setLane k (s.lanes[k].settle t)).lanes[k].deliver = delivered s k q := by
  rw [State.setLane_lanes_get, if_pos rfl, deliver_settle hq, State.setLane, State.setLane, Vector.set_set]
  rfl

/-- The edge that is taken is stamped where it is due, else counted. -/
theorem takeEdge_settled (hq : (s.lanes[k].settle s.now).qualifier = some q) :
    (s.setLane k (s.lanes[k].settle s.now)).takeEdge c g k t =
      if s.chans[c].stamps t then (delivered s k q).stamp c g t
      else .next ((delivered s k q).setChan c { s.chans[c] with decimation := s.chans[c].countEdge }) := by
  rw [State.takeEdge]
  dsimp only
  rw [setLane_deliver hq]
  rfl

/-- Below N a timestamp in a word that exists is written, and the acquisition goes on. -/
theorem stamp_of_more (inMemory : s.chans[c].baseWord + s.chans[c].captured < 65536)
    (more : s.chans[c].captured + 1 < s.chans[c].n) : s.stamp c g t = .next (s.writeTimestamp c g t) := by
  rw [State.stamp, if_neg (Nat.not_le.mpr inMemory), if_neg (Nat.not_le.mpr more)]

theorem qualifiedEdge_of_quiet (quiet : s.quietBefore fine.toNat) :
    exec (.qualifiedEdge c fine) s = (s.upTo fine).edgeComes c fine := by
  change andThen (s.passTo fine) _ = _
  rw [State.passTo_quiet quiet, andThen_next]
  rfl

end

/-- Settles O42: an edge by what its channel's lane offers, and by the dead time and the decimation count. -/
theorem qualifiedEdge : Obligations.QualifiedEdge := by
  intro s c fine
  refine ⟨fun u hu => ⟨fun idle => ?_, fun quiet => afterPassTo_eq hu quiet _⟩, fun quiet idle => ?_,
    fun g j k q r quiet acquiring hg hj hx timer hq => ⟨fun unoffered => ?_, fun offered => ⟨fun unstamped => ?_,
      fun stampable due more inMemory => ?_⟩⟩⟩
  · change andThen (s.passTo fine) _ = _
    rw [hu, andThen_next, edgeComes_of_not_acquiring idle]
  · rw [qualifiedEdge_of_quiet quiet]
    exact edgeComes_of_not_acquiring (s := s.upTo fine) idle
  · rw [qualifiedEdge_of_quiet quiet]
    exact edgeComes_of_not_offered (s := s.upTo fine) acquiring hg hx
      (Bool.eq_false_iff.mpr fun offers => unoffered ((offers_iff hq).mp offers))
  · have stamps : s.chans[c].stamps (s.ref.counter ++ fine) = false := Bool.eq_false_iff.mpr fun stamps => by
      obtain ⟨stampable, due⟩ := stamps_iff.mp stamps
      exact unstamped.elim (· stampable) fun ⟨later, few⟩ => due.elim later fun full => Nat.not_lt.mpr full few
    rw [qualifiedEdge_of_quiet quiet, edgeComes_of_offered (s := s.upTo fine) acquiring hg hx ((offers_iff hq).mpr offered)
      (inTime_of_quietBefore quiet timer), takeEdge_settled (s := s.upTo fine) hq]
    exact if_neg (Bool.eq_false_iff.mp stamps)
  · refine ⟨(delivered (s.upTo fine) k q).writeTimestamp c g (s.ref.counter ++ fine), ?_, fun canonical a => ?_, ?_⟩
    · rw [qualifiedEdge_of_quiet quiet, edgeComes_of_offered (s := s.upTo fine) acquiring hg hx ((offers_iff hq).mpr offered)
        (inTime_of_quietBefore quiet timer), takeEdge_settled (s := s.upTo fine) hq]
      exact (if_pos (stamps_iff.mpr ⟨stampable, due⟩)).trans (stamp_of_more (s := delivered (s.upTo fine) k q) inMemory more)
    · rw [writeTimestamp_eq (s := delivered (s.upTo fine) k q) (j := j) hj]
      exact Memory.read_write s.mem _ a _ canonical
    · rw [writeTimestamp_eq (s := delivered (s.upTo fine) k q) (j := j) hj]
      have place : finePart (s.ref.counter ++ fine) = fine := BitVec.extractLsb'_append_eq_right
      have channel : (delivered (s.upTo fine) k q).chans[c].stamped (s.ref.counter ++ fine) = { s.chans[c] with
          captured := s.chans[c].captured + 1, decimation := 0, lastTimestamp := some (s.ref.counter ++ fine)
          timer := some (s.chans[c].timeout + fine.toNat) } := by
        rw [Channel.stamped, place]
        rfl
      rw [channel]
      rfl

end Sys2Proof.EdgeProofs
end

section
namespace Sys2Proof.EdgeProofs

open Sys2Proof Sys2Proof.Machine Sys2Proof.LaneProofs Sys2Proof.ClockProofs Sys2Proof.JobProofs

/-! ### The end of a starvation timer (R88, R89) -/

section

variable {s : State} {c : ChannelNo} {r : Nat}

theorem starvationExpiry_of_stopped (stopped : s.chans[c].timer = none) : exec (.starvationExpiry c) s = .next s := by
  change execStarvationExpiry c s = _
  rw [execStarvationExpiry, stopped]

theorem starvationExpiry_of_later (timer : s.chans[c].timer = some r) (later : 65536 ≤ r) : exec (.starvationExpiry c) s = .next s := by
  change execStarvationExpiry c s = _
  rw [execStarvationExpiry, timer]
  exact if_neg (Nat.not_lt.mpr later)

theorem starvationExpiry_of_timer (timer : s.chans[c].timer = some r) (within : r < 65536) :
    exec (.starvationExpiry c) s = andThen (s.passTo (BitVec.ofNat 16 r)) fun u => .next (u.timerExpires c) := by
  change execStarvationExpiry c s = _
  rw [execStarvationExpiry, timer]
  exact if_pos within

/-- Where the acquisition has ended, or an edge has restarted the timer, no expiry comes. -/
theorem timerExpires_of_not_due
    (h : s.chans[c].activity ≠ .acquiring ∨ ∀ r', s.chans[c].timer = some r' → s.ref.fine.toNat < r') : s.timerExpires c = s := by
  unfold State.timerExpires
  split
  · rename_i acquiring _ timer
    exact if_neg (Nat.not_le.mpr (h.resolve_left (not_not_intro acquiring) _ timer))
  · rfl

/-- A timer that has ended ends its channel's acquisition, and the job NO_EDGES. -/
theorem timerExpires_of_due {g : Handle} (acquiring : s.chans[c].activity = .acquiring) (hg : s.chans[c].job = some g)
    (timer : s.chans[c].timer = some r) (past : r ≤ s.ref.fine.toNat) :
    s.timerExpires c = ((s.stopChannel c).completeJob g.slot .noEdges .aborted).afterAcquisition := by
  rw [State.timerExpires, acquiring, hg, timer]
  exact if_pos past

end

/-- Settles O44: the expiry by what its channel's timer is once the period has run to its end. -/
theorem starvationExpiry : Obligations.StarvationExpiry := by
  intro s c
  refine ⟨starvationExpiry_of_stopped, fun r timer => ⟨starvationExpiry_of_later timer, fun within u hu =>
    ⟨fun gone => ?_, fun same quiet => ?_⟩, fun g j k quiet links _ hg hj hx within => ?_⟩⟩
  · rw [starvationExpiry_of_timer timer within, hu, andThen_next, timerExpires_of_not_due gone]
  · rw [starvationExpiry_of_timer timer within, starvationExpiry_of_timer same within]
    exact afterPassTo_eq hu (by rwa [ofNat_toNat_of_lt within]) _
  · obtain ⟨⟨wired, -⟩, -⟩ := (linksAgree_iff s).mp links
    have acquiring := wired.acquiring_of_job (c := c) (by rw [hg]; exact nofun)
    have fits : (BitVec.ofNat 16 r : Fine).toNat = r := ofNat_toNat_of_lt within
    have past : r ≤ (s.reach (BitVec.ofNat 16 r)).ref.fine.toNat := fits.symm.le.trans (le_fine_reach s (BitVec.ofNat 16 r))
    let stopped := (s.reach (BitVec.ofNat 16 r)).freed c k s.chans[c].stopped
    refine ⟨stopped.completeJob g.slot .noEdges .aborted, ?_, completeJob_ended (s := stopped) hj .noEdges .aborted,
      completeJob_eq_withJobsOf stopped g.slot .noEdges .aborted⟩
    rw [starvationExpiry_of_timer timer within, State.passTo_quiet (by rwa [fits]), andThen_next,
      timerExpires_of_due (s := s.reach (BitVec.ofNat 16 r)) acquiring hg timer past,
      stopChannel_of_lane (s := s.reach (BitVec.ofNat 16 r)) hx, afterAcquisition_eq_decided]
    rfl

end Sys2Proof.EdgeProofs
end

section
namespace Sys2Proof.CalEdgeProofs

open Sys2Proof Sys2Proof.Machine Sys2Proof.LaneProofs Sys2Proof.ClockProofs Sys2Proof.ReferenceProofs Sys2Proof.CheckProofs

/-! ### The generator's step (R162) -/

theorem toNat_prbsStep (r : BitVec 15) : (prbsStep r).toNat = (2 * r.toNat + if prbsBit r then 1 else 0) % 32768 := by
  have apart : r <<< 1 &&& BitVec.ofNat 15 (prbsBit r).toNat = 0#15 := by
    ext i hi
    rcases i with _ | i <;> cases prbsBit r <;> simp [BitVec.getElem_one]
  rw [prbsStep, ← BitVec.add_eq_or_of_and_eq_zero _ _ apart, BitVec.toNat_add, BitVec.toNat_shiftLeft, BitVec.toNat_ofNat,
    Nat.shiftLeft_eq]
  cases prbsBit r <;> simp <;> omega

theorem calInterval_eq (bit : Bool) : calInterval bit = if bit then 4195328 else 4193280 := rfl

/-! ### An edge at the channels on CAL (R163, R164) -/

/-- What the channels stamp of the edge about to be emitted (R163, entry 14). -/
def calStamps (s : State) (e0 e1 e2 e3 : Int) : Vector Timestamp 4 :=
  Vector.ofFn fun c : ChannelNo => erringStamp s.verif.nextEdge ([e0, e1, e2, e3].getD c.val 0)

section

variable (s : State) (stamps : Vector Timestamp 4)

theorem emitCalEdge_chans (c : ChannelNo) : (s.emitCalEdge stamps).chans[c] =
    if s.xpoint[c] = .cal then { s.chans[c] with lastTimestamp := some stamps[c] } else s.chans[c] := getElem_ofFn_fin _ c

theorem emitCalEdge_lastTimestamp (c : ChannelNo) : (s.emitCalEdge stamps).chans[c].lastTimestamp =
    if s.xpoint[c] = .cal then some stamps[c] else s.chans[c].lastTimestamp := by
  rw [emitCalEdge_chans]
  split <;> rfl

theorem emitCalEdge_activity (c : ChannelNo) : (s.emitCalEdge stamps).chans[c].activity = s.chans[c].activity := by
  rw [emitCalEdge_chans]
  split <;> rfl

theorem scoredErrors_eq {c : ChannelNo} {last : Timestamp} (h : s.chans[c].lastTimestamp = some last) (t : Timestamp) :
    s.scoredErrors c t =
      if s.verif.interval + s.verif.tolerance < (t - last).toNat ∨ (t - last).toNat + s.verif.tolerance < s.verif.interval
      then min 65535 (s.verif.errors[c] + 1) else s.verif.errors[c] := by
  rw [State.scoredErrors, h]
  simp only [isError, Bool.or_eq_true, decide_eq_true_iff]
  rfl

theorem emitCalEdge_errors {c : ChannelNo} {last : Timestamp} (h : s.chans[c].lastTimestamp = some last) :
    (s.emitCalEdge stamps).verif.errors[c] =
      if 3 ≤ s.verif.emitted ∧ s.verif.mask.getLsbD c.val ∧
        (s.verif.interval + s.verif.tolerance < (stamps[c] - last).toNat ∨
          (stamps[c] - last).toNat + s.verif.tolerance < s.verif.interval)
      then min 65535 (s.verif.errors[c] + 1) else s.verif.errors[c] := by
  refine (getElem_ofFn_fin _ c).trans ?_
  simp only [Bool.and_eq_true, decide_eq_true_iff, Verifier.selects, scoredErrors_eq s h]
  by_cases scored : 3 ≤ s.verif.emitted ∧ s.verif.mask.getLsbD c.val = true
  · rw [if_pos scored]
    exact if_congr (by simp only [scored, true_and]) rfl rfl
  · rw [if_neg scored, if_neg fun h => scored ⟨h.1, h.2.1⟩]

end

/-- From `s` to `t` the edge has been stamped and its interval scored; monitor, memory, table and hold have stayed. -/
structure Scores (s t : State) (stamps : Vector Timestamp 4) : Prop where
  stamped : ∀ c : ChannelNo, t.chans[c].lastTimestamp = if s.xpoint[c] = .cal then some stamps[c] else s.chans[c].lastTimestamp
  emitted : t.verif.emitted = s.verif.emitted + 1
  scored : t.verif.scored = s.verif.scored + (if 3 ≤ s.verif.emitted then 1 else 0)
  errors : ∀ c : ChannelNo, ∀ last, s.chans[c].lastTimestamp = some last → t.verif.errors[c] =
    if 3 ≤ s.verif.emitted ∧ s.verif.mask.getLsbD c.val ∧
      (s.verif.interval + s.verif.tolerance < (stamps[c] - last).toNat ∨
        (stamps[c] - last).toNat + s.verif.tolerance < s.verif.interval)
    then min 65535 (s.verif.errors[c] + 1) else s.verif.errors[c]
  ref : t.ref = s.ref
  mem : t.mem = s.mem
  table : t.table = s.table
  hold : t.hold = s.hold

theorem scores_emitCalEdge (s : State) (stamps : Vector Timestamp 4) : Scores s (s.emitCalEdge stamps) stamps where
  stamped := emitCalEdge_lastTimestamp s stamps
  emitted := rfl
  scored := by
    change (if decide (3 ≤ s.verif.emitted) then _ else _) = _
    by_cases h : 3 ≤ s.verif.emitted
    · rw [decide_eq_true h, if_pos h]
      rfl
    · rw [decide_eq_false h, if_neg h]
      rfl
  errors := fun c last h => emitCalEdge_errors s stamps h
  ref := rfl
  mem := rfl
  table := rfl
  hold := rfl

section

variable {s : State} {e0 e1 e2 e3 : Int}

/-- Before the last edge of a check the register steps and sets the next interval (R162). -/
theorem afterCalEdge_of_more (more : s.verif.emitted < s.verif.e + 2) (stamps : Vector Timestamp 4) :
    (s.afterCalEdge stamps).prbs = prbsStep s.verif.prbs ∧ (s.afterCalEdge stamps).interval = calInterval (prbsBit s.verif.prbs) ∧
      (s.afterCalEdge stamps).nextEdge = s.verif.nextEdge + BitVec.ofNat 48 (calInterval (prbsBit s.verif.prbs)) := by
  have stepping := decide_eq_true more
  refine ⟨?_, ?_, ?_⟩ <;> exact if_pos stepping

theorem calEdgeComes_of_not_due (h : s.calEdgeDue = false) : s.calEdgeComes e0 e1 e2 e3 = s := by
  rw [State.calEdgeComes, h]
  rfl

theorem calEdgeComes_of_more (h : s.calEdgeDue = true) (more : s.verif.emitted < s.verif.e + 2) :
    s.calEdgeComes e0 e1 e2 e3 = s.emitCalEdge (calStamps s e0 e1 e2 e3) := by
  have left : ¬ s.verif.emitted + 1 = s.verif.e + 3 := by omega
  exact (if_pos h).trans (if_neg left)

theorem calEdgeComes_of_last (h : s.calEdgeDue = true) (last : s.verif.emitted = s.verif.e + 2) :
    s.calEdgeComes e0 e1 e2 e3 = (s.emitCalEdge (calStamps s e0 e1 e2 e3)).passCheck := by
  have done : s.verif.emitted + 1 = s.verif.e + 3 := by omega
  exact (if_pos h).trans (if_pos done)

theorem calEdge_of_not_due (h : s.calEdgeDue = false) : exec (.calEdge e0 e1 e2 e3) s = .next s := by
  change execCalEdge e0 e1 e2 e3 s = _
  rw [execCalEdge, h]
  rfl

theorem calEdge_of_due (h : s.calEdgeDue = true) : exec (.calEdge e0 e1 e2 e3) s =
    andThen (s.passTo (s.verif.nextEdge.extractLsb' 0 16)) fun u => .next (u.calEdgeComes e0 e1 e2 e3) := if_pos h

theorem calEdge_of_quiet (h : s.calEdgeDue = true) (quiet : s.quietBefore (s.verif.nextEdge.extractLsb' 0 16).toNat) :
    exec (.calEdge e0 e1 e2 e3) s = .next ((s.reach (s.verif.nextEdge.extractLsb' 0 16)).calEdgeComes e0 e1 e2 e3) := by
  rw [calEdge_of_due h, State.passTo_quiet quiet, andThen_next]

theorem reported_frame (s : State) (r : ServiceReport) : ∃ queues, s.reported r = { s with queues } := by
  rw [← offerService_eq_reported]
  exact s.offerService_frame r

/-- What a service record does to the queues hangs on the queues, the line time and its source alone. -/
theorem reported_queues {u : State} (queues : u.queues = s.queues) (lineTime : u.ref.lineTime = s.ref.lineTime)
    (source : u.ref.source = s.ref.source) (r : ServiceReport) : (u.reported r).queues = (s.reported r).queues := by
  unfold State.reported
  dsimp only
  rw [queues, lineTime, source]
  split
  · rfl
  · split <;> rfl

/-- The part with the service states of a check's normal end (R165). -/
def judged (s : State) : State := { s with service := Vector.ofFn fun c : ChannelNo => s.checkedService c }

/-- In HOLD_ACTIVE the end of a check grants nothing. -/
theorem passCheck_of_active (active : s.hold = .active) : s.passCheck =
    (judged s).dropCheck.reported ((judged s).dropCheck.checkReport .done) := by
  rw [← endCheck_eq_reported]
  refine arbitrate_of_closed (.inr (.inr ?_))
  rw [State.endCheck_hold]
  exact fun running => nomatch active.symm.trans running

/-- The end of a check leaves the scores of its last edge. -/
theorem Scores.passCheck {t : State} {stamps : Vector Timestamp 4} (h : Scores s t stamps) (active : t.hold = .active) :
    Scores s t.passCheck stamps := by
  obtain ⟨_, frame⟩ := reported_frame (judged t).dropCheck ((judged t).dropCheck.checkReport .done)
  rw [passCheck_of_active active, frame]
  refine ⟨fun c => ?_, h.emitted, h.scored, h.errors, h.ref, h.mem, h.table, h.hold⟩
  rw [← h.stamped c]
  change (judged t).dropCheck.chans[c].lastTimestamp = _
  rw [dropCheck_chans]
  split <;> rfl

/-- At the end of a check each selected channel is IDLE without entry, its service state set by its counter (R165). -/
theorem passCheck_selected (active : s.hold = .active) {c : ChannelNo} (selected : s.verif.mask.getLsbD c.val = true) :
    s.passCheck.chans[c].activity = .idle ∧ s.passCheck.xpoint[c] = .none ∧
      s.passCheck.service[c] = if s.passCheck.verif.errors[c] ≤ s.verif.threshold then .inService else .suspect := by
  obtain ⟨_, frame⟩ := reported_frame (judged s).dropCheck ((judged s).dropCheck.checkReport .done)
  have chans := dropCheck_chans (judged s) c
  have xpoint := dropCheck_xpoint (judged s) c
  rw [if_pos (show (judged s).verif.selects c = true from selected)] at chans xpoint
  rw [passCheck_of_active active, frame]
  refine ⟨congrArg Channel.activity chans, xpoint, (getElem_ofFn_fin _ c).trans ?_⟩
  exact if_pos selected

/-- Every other channel stays (R165). -/
theorem passCheck_unselected (active : s.hold = .active) {c : ChannelNo} (unselected : s.verif.mask.getLsbD c.val = false) :
    s.passCheck.service[c] = s.service[c] ∧ s.passCheck.xpoint[c] = s.xpoint[c] ∧
      s.passCheck.chans[c].activity = s.chans[c].activity := by
  obtain ⟨_, frame⟩ := reported_frame (judged s).dropCheck ((judged s).dropCheck.checkReport .done)
  have chans := dropCheck_chans (judged s) c
  have xpoint := dropCheck_xpoint (judged s) c
  have other : ¬ s.verif.mask.getLsbD c.val = true := Bool.eq_false_iff.mp unselected
  rw [if_neg (show ¬ (judged s).verif.selects c = true from other)] at chans xpoint
  rw [passCheck_of_active active, frame]
  refine ⟨(getElem_ofFn_fin _ c).trans ?_, xpoint, congrArg Channel.activity chans⟩
  exact if_neg other

/-- The CHECK record of the end is offered to P0 (R166). -/
theorem passCheck_queues (active : s.hold = .active) : s.passCheck.queues = (s.reported (.check .done s.verif.mask s.verif.e
    s.verif.tolerance s.verif.threshold s.verif.scored s.passCheck.verif.errors s.passCheck.service)).queues := by
  obtain ⟨_, frame⟩ := reported_frame (judged s).dropCheck ((judged s).dropCheck.checkReport .done)
  have errors : s.passCheck.verif.errors = s.verif.errors := by rw [passCheck_of_active active, frame]; rfl
  have service : s.passCheck.service = (judged s).service := by rw [passCheck_of_active active, frame]; rfl
  rw [errors, service, passCheck_of_active active]
  exact reported_queues (s := s) (u := (judged s).dropCheck) rfl rfl rfl _

theorem passCheck_running (active : s.hold = .active) : s.passCheck.verif.running = false := by
  obtain ⟨_, frame⟩ := reported_frame (judged s).dropCheck ((judged s).dropCheck.checkReport .done)
  rw [passCheck_of_active active, frame]
  rfl

end

section

variable {s t : State} {e0 e1 e2 e3 : Int}

/-- What an edge scores, the period having run on to its place. -/
theorem Scores.at_place {place : Fine} (h : Scores (s.reach place) t (calStamps (s.reach place) e0 e1 e2 e3)) :
    let stamp (c : ChannelNo) : Timestamp := s.verif.nextEdge + BitVec.ofInt 48 ([e0, e1, e2, e3].getD c.val 0)
    (∀ c : ChannelNo, t.chans[c].lastTimestamp = if s.xpoint[c] = .cal then some (stamp c) else s.chans[c].lastTimestamp) ∧
    t.verif.emitted = s.verif.emitted + 1 ∧ t.verif.scored = s.verif.scored + (if 3 ≤ s.verif.emitted then 1 else 0) ∧
    (∀ c : ChannelNo, ∀ last, s.chans[c].lastTimestamp = some last → t.verif.errors[c] =
      if 3 ≤ s.verif.emitted ∧ s.verif.mask.getLsbD c.val ∧ (s.verif.interval + s.verif.tolerance < (stamp c - last).toNat ∨
        (stamp c - last).toNat + s.verif.tolerance < s.verif.interval)
      then min 65535 (s.verif.errors[c] + 1) else s.verif.errors[c]) ∧
    t.ref = (s.upTo place).ref ∧ t.mem = s.mem ∧ t.table = s.table ∧ t.hold = s.hold := by
  have stamp (c : ChannelNo) : (calStamps (s.reach place) e0 e1 e2 e3)[c] =
      s.verif.nextEdge + BitVec.ofInt 48 ([e0, e1, e2, e3].getD c.val 0) := getElem_ofFn_fin _ c
  obtain ⟨stamped, emitted, scored, errors, ref, mem, table, hold⟩ := h
  simp only [stamp] at stamped errors
  exact ⟨stamped, emitted, scored, errors, ref, mem, table, hold⟩

end

/-- Settles O58: an edge by what is due before it, and the last edge by the end of the check. -/
theorem calEdges : Obligations.CalEdges := by
  intro s e0 e1 e2 e3
  refine ⟨fun away => calEdge_of_not_due ?_, fun running now left u hu => ?_, fun running now left quiet => ?_⟩
  · refine Bool.eq_false_iff.mpr fun due => ?_
    obtain ⟨running, -, now⟩ := calEdgeDue_iff.mp due
    exact away.elim (fun stopped => nomatch stopped.symm.trans running) fun later => later now
  · have due : s.calEdgeDue = true := calEdgeDue_iff.mpr ⟨running, Nat.lt_succ_of_le left, now⟩
    refine ⟨fun stopped => ?_, fun same counter quiet => ?_⟩
    · have none : u.calEdgeDue = false := Bool.eq_false_iff.mpr fun due => nomatch stopped.symm.trans (calEdgeDue_iff.mp due).1
      rw [calEdge_of_due due, hu, andThen_next, calEdgeComes_of_not_due none]
    · have due' : u.calEdgeDue = true := calEdgeDue_iff.mpr (by rw [same, counter]; exact calEdgeDue_iff.mp due)
      rw [calEdge_of_due due, calEdge_of_due due', same]
      exact afterPassTo_eq hu quiet _
  · have due : s.calEdgeDue = true := calEdgeDue_iff.mpr ⟨running, Nat.lt_succ_of_le left, now⟩
    let reached := s.reach (s.verif.nextEdge.extractLsb' 0 16)
    let emitted := reached.emitCalEdge (calStamps reached e0 e1 e2 e3)
    have scores : Scores reached emitted (calStamps reached e0 e1 e2 e3) := scores_emitCalEdge _ _
    refine ⟨fun more => ⟨emitted, ?_, scores.at_place, ?_⟩, fun last links => ?_⟩
    · rw [calEdge_of_quiet due quiet, calEdgeComes_of_more (s := reached) due more]
    · obtain ⟨prbs, interval, nextEdge⟩ := afterCalEdge_of_more (s := reached) more (calStamps reached e0 e1 e2 e3)
      exact ⟨(congrArg BitVec.toNat prbs).trans (toNat_prbsStep _), interval, nextEdge, running, rfl, rfl, rfl⟩
    · obtain ⟨-, -, check, -⟩ := links
      obtain ⟨active, -, -, enough, -, scored, -⟩ := check running
      have total : emitted.verif.scored = s.verif.e := by
        rw [scores.scored, if_pos (show 3 ≤ reached.verif.emitted from last ▸ by omega)]
        change s.verif.scored + 1 = _
        omega
      have ended := scores.passCheck active
      refine ⟨emitted.passCheck, ?_, ended.at_place, ?_, passCheck_running (s := emitted) active,
        fun c => passCheck_selected (s := emitted) active, fun c unselected => ?_, ?_⟩
      · rw [calEdge_of_quiet due quiet, calEdgeComes_of_last (s := reached) due last]
      · exact ended.scored.trans (scores.scored.symm.trans total)
      · obtain ⟨service, xpoint, activity⟩ := passCheck_unselected (s := emitted) active unselected
        exact ⟨service, xpoint, activity.trans (emitCalEdge_activity reached _ c)⟩
      · rw [passCheck_queues (s := emitted) active, total]
        exact reported_queues (s := s) (u := emitted) rfl rfl rfl _

end Sys2Proof.CalEdgeProofs
end

section
namespace Sys2Proof.LossProofs

open Sys2Proof Sys2Proof.Machine Sys2Proof.LaneProofs Sys2Proof.JobProofs

/-! ### Channels that stop together (R26, R90) -/

section

variable (s : State) (c d : ChannelNo)

theorem stopChannel_xpoint : (s.stopChannel c).xpoint[d] = if c = d then .none else s.xpoint[d] := disconnect_xpoint s c d

/-- A stop disconnects the lane of the channel's entry and no other. -/
theorem stopChannel_lanes (k : LaneNo) : (s.stopChannel c).lanes[k] =
    if s.xpoint[c] = .lane k then { s.lanes[k] with connected := none, qualifier := none } else s.lanes[k] := by
  rw [State.stopChannel, State.setChan_lanes]
  unfold State.disconnect
  split
  · rename_i k' hx
    rw [State.setEntry_lanes, State.setLane_lanes_get, hx]
    by_cases same : k' = k
    · subst same
      rw [if_pos rfl, if_pos rfl]
    · rw [if_neg same, if_neg fun h => same (Entry.lane.inj h)]
  · rename_i hx
    rw [hx, if_neg nofun, State.setEntry_lanes]
  · rename_i hx
    rw [hx, if_neg nofun, State.setEntry_lanes]

end

section

variable (l : List ChannelNo) (s : State)

theorem stopAll_chans (d : ChannelNo) :
    (l.foldl State.stopChannel s).chans[d] = if d ∈ l then s.chans[d].stopped else s.chans[d] := by
  induction l generalizing s with
  | nil => rfl
  | cons c l ih =>
    rw [List.foldl_cons, ih, stopChannel_chans]
    by_cases same : c = d
    · subst same
      rw [if_pos rfl, if_pos List.mem_cons_self]
      split <;> rfl
    · rw [if_neg same]
      exact if_congr ⟨List.mem_cons_of_mem c, fun h => (List.mem_cons.mp h).resolve_left (Ne.symm same)⟩ rfl rfl

theorem stopAll_xpoint (d : ChannelNo) : (l.foldl State.stopChannel s).xpoint[d] = if d ∈ l then .none else s.xpoint[d] := by
  induction l generalizing s with
  | nil => rfl
  | cons c l ih =>
    rw [List.foldl_cons, ih, stopChannel_xpoint]
    by_cases same : c = d
    · subst same
      rw [if_pos rfl, if_pos List.mem_cons_self]
      split <;> rfl
    · rw [if_neg same]
      exact if_congr ⟨List.mem_cons_of_mem c, fun h => (List.mem_cons.mp h).resolve_left (Ne.symm same)⟩ rfl rfl

/-- Each lane that a stopped channel was connected to is disconnected. -/
theorem stopAll_lanes (k : LaneNo) : (l.foldl State.stopChannel s).lanes[k] =
    if ∃ c ∈ l, s.xpoint[c] = .lane k then { s.lanes[k] with connected := none, qualifier := none } else s.lanes[k] := by
  induction l generalizing s with
  | nil => rw [if_neg (by simp)]; rfl
  | cons c l ih =>
    rw [List.foldl_cons, ih, stopChannel_lanes]
    by_cases first : s.xpoint[c] = .lane k
    · rw [if_pos first, if_pos (show ∃ d ∈ c :: l, s.xpoint[d] = .lane k from ⟨c, List.mem_cons_self, first⟩)]
      split <;> rfl
    · rw [if_neg first]
      refine if_congr ⟨?_, ?_⟩ rfl rfl
      · rintro ⟨d, hd, hx⟩
        rw [stopChannel_xpoint] at hx
        split at hx
        · cases hx
        · exact ⟨d, List.mem_cons_of_mem c hd, hx⟩
      · rintro ⟨d, hd, hx⟩
        have other : c ≠ d := fun same => first (same ▸ hx)
        refine ⟨d, (List.mem_cons.mp hd).resolve_left other.symm, ?_⟩
        rw [stopChannel_xpoint, if_neg other, hx]

end

theorem mem_acquiringChannels {s : State} {c : ChannelNo} : c ∈ s.acquiringChannels ↔ s.chans[c].activity = .acquiring := by
  simp only [State.acquiringChannels, List.mem_filter, List.mem_finRange, true_and, decide_eq_true_iff]

/-! ### The jobs that the ACQUIRING channels serve -/

/-- In agreement the jobs that ACQUIRING channels serve are the ACQUIRING jobs. -/
theorem served_iff_acquiring {s : State} (wired : Wired s) (agree : s.acquisitionsAgree) {i : SlotNo} {j : Job}
    (hj : s.jobAt i = some j) :
    (s.acquiringChannels.any fun c => decide (s.chans[c].job = some (s.handleAt i))) = decide (j.state = .acquiring) := by
  obtain ⟨served, keeps⟩ := agree
  rw [Bool.eq_iff_iff, List.any_eq_true, decide_eq_true_iff]
  constructor
  · rintro ⟨c, -, hc⟩
    obtain ⟨j', found, acquiring, -⟩ := served c _ (of_decide_eq_true hc)
    rw [Option.mem_def, lookup_handleAt, hj, Option.some.injEq] at found
    rw [found, acquiring]
  · intro acquiring
    obtain ⟨states, channels⟩ := keeps i j hj
    obtain ⟨c, hc⟩ := Option.isSome_iff_exists.mp (states.mp acquiring)
    have serves := (channels c hc).1
    refine ⟨c, mem_acquiringChannels.mpr (wired.acquiring_of_job ?_), decide_eq_true serves⟩
    rw [serves]
    exact nofun

/-- Selections that agree on the jobs of the table list the same slots. -/
theorem oldestFirst_congr {s : State} {sel sel' : SlotNo → Job → Bool} (h : ∀ i j, s.jobAt i = some j → sel i j = sel' i j) :
    s.oldestFirst sel = s.oldestFirst sel' := by
  have same : s.selectJobs sel = s.selectJobs sel' := by
    refine List.filterMap_congr fun i _ => ?_
    rcases hj : s.jobAt i with _ | j
    · rfl
    · rw [Option.bind_some, Option.bind_some, h i j hj]
  rw [State.oldestFirst, State.oldestFirst, same]

theorem placeByAge_congr {s t : State} (clock : t.seqCounter = s.seqCounter) (x : SlotNo × Job) (l : List (SlotNo × Job)) :
    t.placeByAge x l = s.placeByAge x l := by
  induction l with
  | nil => rfl
  | cons y r ih =>
    rw [State.placeByAge, State.placeByAge, ih]
    exact if_congr (by rw [State.age, State.age, clock, State.age, State.age]) rfl rfl

/-- The order of age hangs on the table and on the sequence counter. -/
theorem oldestFirst_of_table {s t : State} (table : t.table = s.table) (clock : t.seqCounter = s.seqCounter)
    (sel : SlotNo → Job → Bool) : t.oldestFirst sel = s.oldestFirst sel := by
  have place : (fun l x => t.placeByAge x l) = fun l x => s.placeByAge x l := by
    funext l x
    exact placeByAge_congr clock x l
  simp only [State.oldestFirst, place, State.selectJobs, State.jobAt, table]

theorem acquiringJobs_eq {s : State} (wired : Wired s) (agree : s.acquisitionsAgree) :
    s.acquiringJobs = s.oldestFirst fun _ j => decide (j.state = .acquiring) :=
  oldestFirst_congr fun _ _ hj => served_iff_acquiring wired agree hj

/-- The acquisitions that a loss ends end together (R40, R90). -/
theorem endAcquisitions_endedTogether {s : State} (wired : Wired s) (agree : s.acquisitionsAgree) :
    endedTogether s s.endAcquisitions (fun j => decide (j.state = .acquiring)) .refLost (decide (s.ref.source = .rc)) := by
  obtain ⟨lanes, xpoint, chans, stops⟩ := stopAll_frame s.acquiringChannels s
  rw [State.endAcquisitions, acquiringJobs_eq wired agree, stops,
    ← oldestFirst_of_table (s := s) (t := { s with lanes, xpoint, chans }) rfl rfl]
  exact completeAll_oldestFirst { s with lanes, xpoint, chans } .refLost _

/-! ### What a service record leaves of the jobs' ends (R150, R152) -/

/-- From `s` to `t` no record and no waiting job has left a queue, and no completion has come or gone. -/
structure KeepsCompletions (s t : State) : Prop where
  queue : ∀ p : PortNo, s.queues[p].queue <+: t.queues[p].queue
  waiting : ∀ (p : PortNo) (h : Handle), .job h ∈ s.queues[p].waiting → .job h ∈ t.queues[p].waiting
  completions : ∀ p : PortNo, t.completions p = s.completions p

theorem KeepsCompletions.refl (s : State) : KeepsCompletions s s := ⟨fun _ => List.prefix_refl _, fun _ _ => id, fun _ => rfl⟩

/-- The job of a record. -/
def recordJob : Record → Option Handle
  | .job h _ _ _ => some h
  | .service _ _ _ _ => none

/-- The job of a waiting completion. -/
def waitingJob : Waiting → Option Handle
  | .job h => some h
  | .service _ _ => none

theorem completions_eq (s : State) (p : PortNo) :
    s.completions p = s.queues[p].queue.filterMap recordJob ++ s.queues[p].waiting.filterMap waitingJob := rfl

theorem mem_waitingJob {w : List Waiting} {h : Handle} : h ∈ w.filterMap waitingJob ↔ .job h ∈ w := by
  rw [List.mem_filterMap]
  constructor
  · rintro ⟨x, hx, same⟩
    cases x with
    | job h' => cases same; exact hx
    | service r d => cases same
  · exact fun waits => ⟨_, waits, rfl⟩

theorem waitingJob_dropOldestService (w : List Waiting) :
    (dropOldestService w).filterMap waitingJob = w.filterMap waitingJob := by
  induction w with
  | nil => rfl
  | cons x w ih =>
    cases x with
    | job h => exact congrArg (h :: ·) ih
    | service r d => rfl

/-- A service record that joins the waiting completions leaves the jobs that wait. -/
theorem waitingJob_joinService (w : List Waiting) (r : ServiceReport) :
    (joinService w r).filterMap waitingJob = w.filterMap waitingJob := by
  unfold joinService
  split
  · rw [List.filterMap_append, waitingJob_dropOldestService]
    exact List.append_nil _
  · rw [List.filterMap_append]
    exact List.append_nil _

/-- Where each queue has kept its records and both lists their jobs, the completions have stayed. -/
theorem KeepsCompletions.of_lists {s t : State} (queue : ∀ p : PortNo, s.queues[p].queue <+: t.queues[p].queue)
    (jobs : ∀ p : PortNo, t.queues[p].queue.filterMap recordJob = s.queues[p].queue.filterMap recordJob)
    (waiting : ∀ p : PortNo, t.queues[p].waiting.filterMap waitingJob = s.queues[p].waiting.filterMap waitingJob) :
    KeepsCompletions s t where
  queue := queue
  waiting p h hw := by rwa [← mem_waitingJob, waiting p, mem_waitingJob]
  completions p := by rw [completions_eq, completions_eq, jobs p, waiting p]

theorem offerService_keepsCompletions (s : State) (r : ServiceReport) : KeepsCompletions s (s.offerService r) := by
  have other {p : PortNo} {q : PortQueue} (hp : 0 ≠ p) : (s.setQueue 0 q).queues[p] = s.queues[p] := by
    rw [State.setQueue_queues_get, if_neg hp]
  have self {q : PortQueue} : (s.setQueue 0 q).queues[(0 : PortNo)] = q := by rw [State.setQueue_queues_get, if_pos rfl]
  unfold State.offerService
  split
  · refine .of_lists (fun p => ?_) (fun p => ?_) fun p => ?_
    all_goals
      rw [State.enterService, enterRecord_queues]
      split
      · subst p
        simp [recordJob]
      · simp
  · refine .of_lists (fun p => ?_) (fun p => ?_) fun p => ?_
    all_goals
      rw [State.setWaiting, State.setQueue_queues_get]
      split
      · subst p
        simp [waitingJob_joinService]
      · simp

/-- Jobs that have ended together stand so when records of other kinds have come behind theirs. -/
theorem endedTogether_of_keepsCompletions {s t u : State} {sel : Job → Bool} {o : EndOutcome} {degraded : Bool}
    (h : endedTogether s t sel o degraded) (keeps : KeepsCompletions t u) (table : u.table = t.table) (pages : u.pages = t.pages)
    (held : u.held = t.held) (limits : u.limits = t.limits) : endedTogether s u sel o degraded := by
  obtain ⟨stays, ends, freed, counts, references, queues⟩ := h
  have jobs (i : SlotNo) : u.jobAt i = t.jobAt i := by rw [State.jobAt, table, State.jobAt]
  simp only [endedTogether, table, pages, held, limits, jobs]
  refine ⟨stays, fun i j hj => ?_, freed, counts, references, fun p => ?_⟩
  · refine (ends i j hj).imp (fun ⟨left, record⟩ => ⟨left, (keeps.queue j.port).subset record⟩) fun ⟨stands, waits⟩ =>
      ⟨stands, keeps.waiting j.port _ waits⟩
  · rw [keeps.completions p]
    exact ⟨(queues p).1.trans (keeps.queue p), (queues p).2⟩

/-- The ends of jobs do not hang on what stands on P0's ATTN, the lanes and the channels before. -/
theorem endedTogether_of_before {s t : State} {ref : RefMonitor} {queues : Vector PortQueue 4} {sel : Job → Bool} {o : EndOutcome}
    {degraded : Bool} (h : endedTogether ({ s with ref, queues } : State) t sel o degraded)
    (lineTime : ref.lineTime = s.ref.lineTime) (queue : ∀ p : PortNo, queues[p].queue = s.queues[p].queue)
    (waiting : ∀ p : PortNo, queues[p].waiting = s.queues[p].waiting) : endedTogether s t sel o degraded := by
  obtain ⟨stays, ends, freed, counts, references, records⟩ := h
  refine ⟨stays, fun i j hj => ?_, freed, counts, references, fun p => ?_⟩
  · rw [← lineTime]
    exact ends i j hj
  · have same : ({ s with ref, queues } : State).completions p = s.completions p := by
      rw [completions_eq, completions_eq]
      dsimp only
      rw [queue p, waiting p]
    have now := records p
    rw [same] at now
    dsimp only at now
    rw [queue p] at now
    exact now

end Sys2Proof.LossProofs
end

section
namespace Sys2Proof.LossProofs

open Sys2Proof Sys2Proof.Machine Sys2Proof.LaneProofs Sys2Proof.JobProofs Sys2Proof.ClockProofs Sys2Proof.ReferenceProofs
  Sys2Proof.CheckProofs Sys2Proof.CalEdgeProofs

/-! ### The acquisitions that a loss ends, block by block (R90) -/

section

variable (s : State)

theorem endAcquisitions_chans (c : ChannelNo) : s.endAcquisitions.chans[c] =
    if s.chans[c].activity = .acquiring then s.chans[c].stopped else s.chans[c] := by
  obtain ⟨_, _, _, _, _, ends⟩ := State.completeAll_frame .refLost s.acquiringJobs (s.acquiringChannels.foldl State.stopChannel s)
  rw [State.endAcquisitions, ends]
  exact (stopAll_chans _ s c).trans (if_congr mem_acquiringChannels rfl rfl)

theorem endAcquisitions_xpoint (c : ChannelNo) : s.endAcquisitions.xpoint[c] =
    if s.chans[c].activity = .acquiring then .none else s.xpoint[c] := by
  obtain ⟨_, _, _, _, _, ends⟩ := State.completeAll_frame .refLost s.acquiringJobs (s.acquiringChannels.foldl State.stopChannel s)
  rw [State.endAcquisitions, ends]
  exact (stopAll_xpoint _ s c).trans (if_congr mem_acquiringChannels rfl rfl)

theorem endAcquisitions_lanes (k : LaneNo) : s.endAcquisitions.lanes[k] =
    if ∃ c : ChannelNo, s.chans[c].activity = .acquiring ∧ s.xpoint[c] = .lane k
    then { s.lanes[k] with connected := none, qualifier := none } else s.lanes[k] := by
  obtain ⟨_, _, _, _, _, ends⟩ := State.completeAll_frame .refLost s.acquiringJobs (s.acquiringChannels.foldl State.stopChannel s)
  rw [State.endAcquisitions, ends]
  exact (stopAll_lanes _ s k).trans (if_congr (by simp only [mem_acquiringChannels]) rfl rfl)

end

/-- The end of a job releases no ATTN. -/
theorem completeJob_attn {s : State} {p : PortNo} (h : s.queues[p].attn = true) (i : SlotNo) (o : EndOutcome) :
    (s.completeJob i o .aborted).queues[p].attn = true := by
  rcases hj : s.jobAt i with _ | j
  · rwa [completeJob_of_none hj]
  · have first : ended s (s.completeJob i o .aborted) i (j.aborted o) := completeJob_ended hj o .aborted
    by_cases hp : p = j.port
    · subst hp
      by_cases admits : s.queues[j.port].admits = true
      · rw [(ended_enters first admits).2.2]
      · rw [(ended_waits first admits).2.2]
        exact h
    · rwa [(ended_otherPort first hp).1]

theorem completeAll_attn {s : State} {p : PortNo} (h : s.queues[p].attn = true) (o : EndOutcome) (l : List SlotNo) :
    (s.completeAll o l).queues[p].attn = true := by
  induction l generalizing s with
  | nil => exact h
  | cons i l ih => exact ih (completeJob_attn h i o)

theorem endAcquisitions_attn {s : State} (h : s.queues[(0 : PortNo)].attn = true) : s.endAcquisitions.queues[(0 : PortNo)].attn = true := by
  obtain ⟨_, _, _, stops⟩ := stopAll_frame s.acquiringChannels s
  refine completeAll_attn ?_ _ _
  rw [stops]
  exact h

/-! ### The check that a loss ends (R166, R168) -/

section

variable {s : State}

theorem reported_attn (h : s.queues[(0 : PortNo)].attn = true) (r : ServiceReport) :
    (s.reported r).queues[(0 : PortNo)].attn = true := by
  unfold State.reported
  dsimp only
  split
  · simp
  · split <;> simpa using h

/-- The record offered stands in P0's queue, or waits. -/
theorem reported_mem (s : State) (r : ServiceReport) :
    .service r s.ref.lineTime (decide (s.ref.source = .rc)) false ∈ (s.reported r).queues[(0 : PortNo)].queue ∨
      ∃ older, .service r older ∈ (s.reported r).queues[(0 : PortNo)].waiting := by
  unfold State.reported
  dsimp only
  split
  · exact .inl (by simp)
  · split
    · exact .inr ⟨false, by simp⟩
    · exact .inr ⟨true, by simp⟩

theorem endCheckIfRunning_of_running (running : s.verif.running = true) :
    s.endCheckIfRunning = s.dropCheck.reported (s.dropCheck.checkReport .refLost) :=
  (if_pos running).trans (endCheck_eq_reported s .refLost)

theorem endCheckIfRunning_of_idle (idle : s.verif.running = false) : s.endCheckIfRunning = s := if_neg (Bool.eq_false_iff.mp idle)

/-- In the end of a check the channels and entries of the selected channels change, and the check is IDLE. -/
theorem endCheckIfRunning_eq (s : State) : ∃ queues, s.endCheckIfRunning = { s with
    chans := if s.verif.running then s.dropCheck.chans else s.chans
    xpoint := if s.verif.running then s.dropCheck.xpoint else s.xpoint
    verif := { s.verif with running := false }
    queues := queues } := by
  by_cases running : s.verif.running = true
  · obtain ⟨queues, frame⟩ := reported_frame s.dropCheck (s.dropCheck.checkReport .refLost)
    refine ⟨queues, ?_⟩
    rw [endCheckIfRunning_of_running running, frame, if_pos running, if_pos running]
    rfl
  · have idle := Bool.eq_false_iff.mpr running
    have same : ({ s.verif with running := false } : Verifier) = s.verif := by rw [← idle]
    refine ⟨s.queues, ?_⟩
    rw [endCheckIfRunning_of_idle idle, if_neg running, if_neg running, same]

theorem endCheckIfRunning_chans (s : State) (c : ChannelNo) : s.endCheckIfRunning.chans[c] =
    if s.verif.running = true ∧ s.verif.mask.getLsbD c.val = true then { s.chans[c] with activity := .idle } else s.chans[c] := by
  obtain ⟨_, frame⟩ := endCheckIfRunning_eq s
  rw [frame]
  dsimp only
  by_cases running : s.verif.running = true
  · rw [if_pos running, dropCheck_chans]
    exact if_congr ⟨fun h => ⟨running, h⟩, And.right⟩ rfl rfl
  · rw [if_neg running, if_neg fun h => running h.1]

theorem endCheckIfRunning_xpoint (s : State) (c : ChannelNo) : s.endCheckIfRunning.xpoint[c] =
    if s.verif.running = true ∧ s.verif.mask.getLsbD c.val = true then .none else s.xpoint[c] := by
  obtain ⟨_, frame⟩ := endCheckIfRunning_eq s
  rw [frame]
  dsimp only
  by_cases running : s.verif.running = true
  · rw [if_pos running, dropCheck_xpoint]
    exact if_congr ⟨fun h => ⟨running, h⟩, And.right⟩ rfl rfl
  · rw [if_neg running, if_neg fun h => running h.1]

theorem endCheckIfRunning_attn (h : s.queues[(0 : PortNo)].attn = true) : s.endCheckIfRunning.queues[(0 : PortNo)].attn = true := by
  by_cases running : s.verif.running = true
  · rw [endCheckIfRunning_of_running running]
    exact reported_attn (s := s.dropCheck) h _
  · rwa [endCheckIfRunning_of_idle (Bool.eq_false_iff.mpr running)]

theorem endCheckIfRunning_keepsCompletions (s : State) : KeepsCompletions s s.endCheckIfRunning := by
  by_cases running : s.verif.running = true
  · rw [endCheckIfRunning_of_running running, ← offerService_eq_reported]
    obtain ⟨queue, waiting, completions⟩ := offerService_keepsCompletions s.dropCheck (s.dropCheck.checkReport .refLost)
    exact ⟨queue, waiting, completions⟩
  · rw [endCheckIfRunning_of_idle (Bool.eq_false_iff.mpr running)]
    exact .refl s

end

end Sys2Proof.LossProofs
end

section
namespace Sys2Proof.LossProofs

open Sys2Proof Sys2Proof.Machine Sys2Proof.LaneProofs Sys2Proof.JobProofs Sys2Proof.ClockProofs Sys2Proof.ReferenceProofs
  Sys2Proof.CheckProofs Sys2Proof.CalEdgeProofs

/-! ### A loss of reference (R9) -/

/-- The part out of LOCKED, with REFLOST asserting P0's ATTN, before the acquisitions and the check end (R9, R156). -/
def unlocked (s : State) : State := ({ s with ref := s.ref.lose } : State).refreshAttn 0

section

variable (s : State)

theorem endedByLoss_eq : endedByLoss s = (unlocked s).endAcquisitions.endCheckIfRunning := rfl

theorem unlocked_queues (p : PortNo) : (unlocked s).queues[p] =
    if 0 = p then { s.queues[(0 : PortNo)] with attn := true } else s.queues[p] := by
  have level : attnLevel 0 s.queues[(0 : PortNo)].queue true = true := by simp [attnLevel]
  rw [unlocked, State.refreshAttn, State.setQueue_queues_get]
  exact if_congr Iff.rfl (congrArg (PortQueue.mk _ _) level) rfl

theorem unlocked_endAcquisitions_verif : (unlocked s).endAcquisitions.verif = s.verif := by
  obtain ⟨_, _, _, _, _, _, _, _, frame⟩ := endAcquisitions_frame (unlocked s)
  rw [frame]
  rfl

/-- A channel after the loss: stopped where it was ACQUIRING, and IDLE where the check had it. -/
theorem endedByLoss_chans (c : ChannelNo) : (endedByLoss s).chans[c] =
    let x := if s.chans[c].activity = .acquiring then s.chans[c].stopped else s.chans[c]
    if s.verif.running = true ∧ s.verif.mask.getLsbD c.val = true then { x with activity := .idle } else x := by
  rw [endedByLoss_eq, endCheckIfRunning_chans, unlocked_endAcquisitions_verif, endAcquisitions_chans]
  rfl

theorem endedByLoss_xpoint (c : ChannelNo) : (endedByLoss s).xpoint[c] =
    if s.verif.running = true ∧ s.verif.mask.getLsbD c.val = true then .none
    else if s.chans[c].activity = .acquiring then .none else s.xpoint[c] := by
  rw [endedByLoss_eq, endCheckIfRunning_xpoint, unlocked_endAcquisitions_verif, endAcquisitions_xpoint]
  rfl

theorem endedByLoss_lanes (k : LaneNo) : (endedByLoss s).lanes[k] =
    if ∃ c : ChannelNo, s.chans[c].activity = .acquiring ∧ s.xpoint[c] = .lane k
    then { s.lanes[k] with connected := none, qualifier := none } else s.lanes[k] := by
  obtain ⟨_, frame⟩ := endCheckIfRunning_eq (unlocked s).endAcquisitions
  rw [endedByLoss_eq, frame]
  exact endAcquisitions_lanes (unlocked s) k

theorem endedByLoss_activity (c : ChannelNo) : (endedByLoss s).chans[c].activity ≠ .acquiring := by
  rw [endedByLoss_chans]
  dsimp only
  split
  · exact nofun
  · split
    · exact nofun
    · assumption

theorem endedByLoss_verif : (endedByLoss s).verif = { s.verif with running := false } := by
  obtain ⟨_, frame⟩ := endCheckIfRunning_eq (unlocked s).endAcquisitions
  rw [endedByLoss_eq, frame]
  dsimp only
  rw [unlocked_endAcquisitions_verif]

theorem endedByLoss_attn : (endedByLoss s).queues[(0 : PortNo)].attn = true := by
  rw [endedByLoss_eq]
  refine endCheckIfRunning_attn (endAcquisitions_attn ?_)
  rw [unlocked_queues, if_pos rfl]

/-- The CHECK record of the loss is in P0's queue or waits (R166, R168). -/
theorem endedByLoss_report (running : s.verif.running = true) :
    let report : ServiceReport := .check .refLost s.verif.mask s.verif.e s.verif.tolerance s.verif.threshold s.verif.scored
      s.verif.errors s.service
    .service report s.ref.lineTime true false ∈ (endedByLoss s).queues[(0 : PortNo)].queue ∨
      ∃ older, .service report older ∈ (endedByLoss s).queues[(0 : PortNo)].waiting := by
  rw [endedByLoss_eq, endCheckIfRunning_of_running (by rw [unlocked_endAcquisitions_verif]; exact running)]
  have offered := reported_mem (unlocked s).endAcquisitions.dropCheck ((unlocked s).endAcquisitions.dropCheck.checkReport .refLost)
  obtain ⟨_, _, _, _, _, _, _, _, frame⟩ := endAcquisitions_frame (unlocked s)
  rw [frame] at offered ⊢
  exact offered

/-- The ACQUIRING jobs end together in a loss (R40, R90). -/
theorem endedByLoss_endedTogether (wired : Wired s) (agree : s.acquisitionsAgree) :
    endedTogether s (endedByLoss s) (fun j => decide (j.state = .acquiring)) .refLost true := by
  have ends : endedTogether (unlocked s) (unlocked s).endAcquisitions (fun j => decide (j.state = .acquiring)) .refLost true :=
    endAcquisitions_endedTogether (s := unlocked s) wired agree
  obtain ⟨_, check⟩ := endCheckIfRunning_eq (unlocked s).endAcquisitions
  have keeps := endCheckIfRunning_keepsCompletions (unlocked s).endAcquisitions
  have queues (p : PortNo) : (unlocked s).queues[p].queue = s.queues[p].queue ∧
      (unlocked s).queues[p].waiting = s.queues[p].waiting := by
    rw [unlocked_queues]
    split
    · subst p
      exact ⟨rfl, rfl⟩
    · exact ⟨rfl, rfl⟩
  rw [endedByLoss_eq]
  refine endedTogether_of_keepsCompletions ?_ keeps ?_ ?_ ?_ ?_
  · exact endedTogether_of_before (ref := s.ref.lose) (queues := (unlocked s).queues) ends rfl (fun p => (queues p).1) fun p => (queues p).2
  all_goals rw [check]

/-- Outside LOCKED nothing is granted, and with no channel ACQUIRING a pending hold is active (R63, R76). -/
theorem loseReference_eq_endedByLoss : s.loseReference = { endedByLoss s with
    ref := s.ref.lose.writeEvent (lossEvent s)
    hold := if s.hold = .pending then .active else s.hold } := by
  obtain ⟨_, _, _, _, _, _, _, _, _, frame⟩ := endedByLoss_frame s
  have ref : (endedByLoss s).ref = s.ref.lose := by rw [frame]
  have hold : (endedByLoss s).hold = s.hold := by rw [frame]
  have still : ∀ c : ChannelNo, ({ endedByLoss s with ref := s.ref.lose.writeEvent (lossEvent s) } : State).chans[c].activity ≠
      .acquiring := endedByLoss_activity s
  rw [loseReference_eq, ref, afterAcquisition_eq_decided, State.decided, arbitrate_of_closed]
  · rw [hold]
    exact congrArg (fun h : HoldState => ({ endedByLoss s with ref := s.ref.lose.writeEvent (lossEvent s), hold := h } : State))
      (if_congr ⟨And.left, fun pending => ⟨pending, still⟩⟩ rfl rfl)
  · exact .inl nofun

end

section

variable (s : State)

theorem loseReference_chans (c : ChannelNo) : s.loseReference.chans[c] = (endedByLoss s).chans[c] := by
  rw [loseReference_eq_endedByLoss]

theorem loseReference_xpoint (c : ChannelNo) : s.loseReference.xpoint[c] = (endedByLoss s).xpoint[c] := by
  rw [loseReference_eq_endedByLoss]

theorem loseReference_lanes (k : LaneNo) : s.loseReference.lanes[k] = (endedByLoss s).lanes[k] := by
  rw [loseReference_eq_endedByLoss]

/-- The blocks that do not depend on lock keep their state (R9). -/
theorem loseReference_other : ({ s.loseReference with
    ref := s.ref, lanes := s.lanes, xpoint := s.xpoint, table := s.table, held := s.held, hold := s.hold, chans := s.chans
    pages := s.pages, limits := s.limits, queues := s.queues, verif := s.verif } : State) = s := by
  obtain ⟨_, _, _, _, _, _, _, _, _, _, frame⟩ := loseReference_frame s
  rw [frame]

/-- The monitor of a loss (R1, R5, R9, R13). -/
theorem loseReference_ref :
    let loss : RefEvent := ⟨.loss, s.ref.lineTime,
      (List.finRange 4).countP fun c => decide (s.chans[c].activity = .acquiring), s.verif.running⟩
    s.loseReference.ref = { s.ref with
      state := .absent, reflost := true, source := .rc, multiplier := .held, accumulator := 0
      rcEnd := 16320000000 + s.ref.fine.toNat
      latest := some loss
      first := if s.ref.first = none then some loss else s.ref.first } := by
  have counted : lossEvent s = ⟨.loss, s.ref.lineTime,
      (List.finRange 4).countP fun c => decide (s.chans[c].activity = .acquiring), s.verif.running⟩ := by
    rw [List.countP_eq_length_filter]
    rfl
  rw [loseReference_eq_endedByLoss, ← counted]
  exact writeEvent_eq _ _

theorem loseReference_hold : (s.hold = .pending → s.loseReference.hold = .active) ∧
    (s.hold ≠ .pending → s.loseReference.hold = s.hold) := by
  rw [loseReference_eq_endedByLoss]
  exact ⟨fun pending => if_pos pending, fun other => if_neg other⟩

/-- Each channel that the check selected is IDLE without entry (R168). -/
theorem loseReference_selected {c : ChannelNo} (running : s.verif.running = true) (selected : s.verif.mask.getLsbD c.val = true) :
    s.loseReference.chans[c].activity = .idle ∧ s.loseReference.xpoint[c] = .none := by
  rw [loseReference_chans, loseReference_xpoint, endedByLoss_chans, endedByLoss_xpoint, if_pos ⟨running, selected⟩]
  dsimp only
  rw [if_pos ⟨running, selected⟩]
  exact ⟨rfl, rfl⟩

/-- A channel that neither acquires nor is checked stays (R90). -/
theorem loseReference_unreached {c : ChannelNo} (still : s.chans[c].activity ≠ .acquiring)
    (unselected : s.verif.running = true → s.verif.mask.getLsbD c.val = false) :
    s.loseReference.chans[c] = s.chans[c] ∧ s.loseReference.xpoint[c] = s.xpoint[c] := by
  have unchecked : ¬ (s.verif.running = true ∧ s.verif.mask.getLsbD c.val = true) :=
    fun ⟨running, selected⟩ => nomatch (unselected running).symm.trans selected
  rw [loseReference_chans, loseReference_xpoint, endedByLoss_chans, endedByLoss_xpoint]
  dsimp only
  rw [if_neg unchecked, if_neg still, if_neg unchecked, if_neg still]
  exact ⟨rfl, rfl⟩

theorem loseReference_unconnected {k : LaneNo} (h : ∀ c : ChannelNo, s.chans[c].activity = .acquiring → s.xpoint[c] ≠ .lane k) :
    s.loseReference.lanes[k] = s.lanes[k] := by
  rw [loseReference_lanes, endedByLoss_lanes, if_neg]
  exact fun ⟨c, acquiring, hx⟩ => h c acquiring hx

variable {s}

/-- In agreement a channel under check stops being checked and nothing else of it changes (R168). -/
theorem loseReference_checking (wired : Wired s) {c : ChannelNo} (checking : s.chans[c].activity = .checking) :
    s.loseReference.chans[c] = { s.chans[c] with activity := .idle } := by
  obtain ⟨-, -, -, checked, -⟩ := wired
  obtain ⟨-, -, -, running, selected⟩ := checked c checking
  have still : s.chans[c].activity ≠ .acquiring := fun acquiring => nomatch checking.symm.trans acquiring
  rw [loseReference_chans, endedByLoss_chans]
  dsimp only
  rw [if_pos ⟨running, selected⟩, if_neg still]

/-- An ACQUIRING channel stops and its lane is disconnected (R26, R90). -/
theorem loseReference_acquiring {c : ChannelNo} {k : LaneNo} (acquiring : s.chans[c].activity = .acquiring) (hx : s.xpoint[c] = .lane k) :
    s.loseReference.chans[c] = { s.chans[c] with activity := .idle, job := none, timer := none } ∧
      s.loseReference.xpoint[c] = .none ∧
      s.loseReference.lanes[k] = { s.lanes[k] with connected := none, qualifier := none } := by
  rw [loseReference_chans, loseReference_xpoint, loseReference_lanes, endedByLoss_chans, endedByLoss_xpoint, endedByLoss_lanes]
  dsimp only
  rw [if_pos acquiring, if_pos acquiring]
  refine ⟨?_, ite_self _, if_pos ⟨c, acquiring, hx⟩⟩
  split <;> rfl

theorem loseReference_endedTogether (wired : Wired s) (agree : s.acquisitionsAgree) :
    endedTogether s s.loseReference (fun j => decide (j.state = .acquiring)) .refLost true := by
  rw [loseReference_eq_endedByLoss]
  exact endedByLoss_endedTogether s wired agree

end

/-- An expiry in LOCKED with nothing due before it is a loss, the detector started again at its place (R6, R9, entry 10). -/
theorem absenceExpiry_of_locked (locked : s.ref.state = .locked) (may : s.ref.mayExpire = true)
    (quiet : s.quietBefore s.ref.expiryPlace.toNat) : exec .absenceExpiry s =
      .next ({ s with ref := (s.reach s.ref.expiryPlace).ref.startDetector s.ref.expiryPlace } : State).loseReference := by
  rw [absenceExpiry_of_quiet may quiet, absenceExpires_reached may, locked]

/-- Settles O26: the expiry comes at its place; there the acquisitions, then the check, end as the lemmas about each block say. -/
theorem lossOfReference : Obligations.LossOfReference := by
  intro s place within
  have may : s.ref.mayExpire = true := mayExpire_iff.mpr within
  have fits : (BitVec.ofNat 16 place : Fine).toNat = place := ofNat_toNat_of_lt (min_max_lt within)
  have reaches : s.ref.expiryPlace = BitVec.ofNat 16 place := expiryPlace_eq s.ref
  clear_value place
  refine ⟨fun u hu same quiet => ?_, fun locked quiet => ?_⟩
  · rw [← reaches] at hu
    exact absenceExpiry_of_passTo may hu same (by rwa [reaches, fits])
  · have arrives := absenceExpiry_of_locked locked may (by rwa [reaches, fits])
    have started : (s.reach s.ref.expiryPlace).ref.startDetector s.ref.expiryPlace =
        { (s.upTo (BitVec.ofNat 16 place)).ref with absenceEnd := 6684672 + place } := by
      rw [reaches, RefMonitor.startDetector, fits]
      rfl
    rw [started] at arrives
    have lineTime : ({ (s.upTo (BitVec.ofNat 16 place)).ref with absenceEnd := 6684672 + place } : RefMonitor).lineTime =
      s.ref.lineTime := rfl
    have monitor := loseReference_ref
      { s with ref := { (s.upTo (BitVec.ofNat 16 place)).ref with absenceEnd := 6684672 + place } }
    refine ⟨_, arrives, monitor, ?_⟩
    clear monitor arrives started
    generalize ({ (s.upTo (BitVec.ofNat 16 place)).ref with absenceEnd := 6684672 + place } : RefMonitor) = r at lineTime ⊢
    obtain ⟨pending, other⟩ := loseReference_hold { s with ref := r }
    refine ⟨fun c => ?_, ?_, ?_, pending, other, ?_, fun running => ⟨fun c selected => loseReference_selected _ running selected, ?_⟩,
      fun c still unselected => loseReference_unreached _ still unselected, fun k free => loseReference_unconnected _ free,
      fun links jobs => ?_⟩
    · rw [loseReference_chans]
      exact endedByLoss_activity _ c
    · rw [loseReference_eq_endedByLoss]
      exact endedByLoss_verif _
    · rw [loseReference_eq_endedByLoss]
      exact endedByLoss_attn _
    · exact congrArg (fun t : State => ({ t with ref := s.ref } : State)) (loseReference_other { s with ref := r })
    · rw [loseReference_eq_endedByLoss, ← lineTime]
      exact endedByLoss_report { s with ref := r } running
    · obtain ⟨⟨wired, -⟩, -⟩ := (linksAgree_iff s).mp links
      obtain ⟨agree, -⟩ := jobs
      refine ⟨?_, fun c checking => loseReference_checking (s := { s with ref := r }) wired checking,
        fun c k acquiring hx => loseReference_acquiring acquiring hx⟩
      exact endedTogether_of_before (ref := r) (queues := s.queues) (loseReference_endedTogether wired agree) lineTime
        (fun _ => rfl) fun _ => rfl

end Sys2Proof.LossProofs
end
